-- ==== Sys2Proof/Word.lean ====
section
/-! DEFINITION. The words of the heating line (spec/01, section 1.1): a character carries eight bits, and a
16-bit field is two characters. -/

namespace Sys2Proof

/-- One character of the line, without its start and stop bits. -/
abbrev Byte := BitVec 8

/-- A 16-bit field of a frame or of a table row. -/
abbrev Half := BitVec 16

end Sys2Proof
end

