-- ==== Sys2Proof/Syntax.lean ====
section
/-! DEFINITION. The commands of the block: one constructor of `Instr` for each row of spec/opcode_table.json,
with the operands a row needs to say which record it reaches and what the outside world brings. The table gives no
operands; the choice of them is log entry 1. -/

namespace Sys2Proof

/-- One of the two segments of the heating line: A is the house segment, B the yard segment (spec/00, section 6). -/
inductive Segment where
  | a | b
  deriving DecidableEq, Repr

/-- A line address of a party that has a station entry: 0 is the part, 1 to 30 are stations (R22, R23). -/
abbrev Addr := Fin 31

/-- A heating zone, 0 to 11 (R43). -/
abbrev ZoneId := Fin 12

/-- A valve output, 0 to 11 (R43, R61). -/
abbrev OutputId := Fin 12

/-- A complete frame on the line, by the fields of R20. The payload length, byte 3, is the length of `payload`. -/
structure Frame where
  dest    : Byte
  source  : Byte
  kind    : BitVec 4
  seq     : BitVec 4
  payload : List Byte
  check   : Byte
  deriving DecidableEq, Repr

/-- Why reception of a frame is abandoned by an event of the line itself (R2, first and third case). -/
inductive AbandonCause where
  | missingStop | lengthAboveEight
  deriving DecidableEq, Repr

/-- A place of a port that holds a unicast frame, which alone can be in a retry wait (R10, R16). -/
inductive UnicastPlace where
  | reply | poll | crossing
  deriving DecidableEq, Repr

/-- One of the four relays (R164). -/
inductive Relay where
  | burner | reset | pump | preheat
  deriving DecidableEq, Repr

/-- What identifies an MGMT_REQUEST besides its command (R179): the requester, the segment it came from and the
sequence its reply repeats. -/
structure Requester where
  station : Addr
  segment : Segment
  seq     : BitVec 4
  deriving DecidableEq, Repr

/-- The two fields a WRITE_STATION_SEGMENT can name (R40). -/
inductive SegmentField where
  | segment | pinned
  deriving DecidableEq, Repr

/-- The zone settings a WRITE_ZONE_SETTING can name (R68, R57). -/
inductive ZoneSetting where
  | bindingList | type | baseLevel | frostFloor | duty | limit
  deriving DecidableEq, Repr

/-- The two floors a WRITE_FLOOR_SETTING can name (R55). -/
inductive FloorSetting where
  | low | unknown
  deriving DecidableEq, Repr

/-- What a WRITE_STRAPPING can name (R120, R121). -/
inductive StrapTarget where
  | height (slot : Fin 16)
  | volume (slot : Fin 16)
  | pointCount
  deriving DecidableEq, Repr

/-- The two thresholds a WRITE_RESERVE_CUTOUT can name (R132). -/
inductive Threshold where
  | reserve | cutout
  deriving DecidableEq, Repr

/-- The end of the 8 ms that follow a frame (R1). `arriving` says that an answer character which began in the slot is still
arriving then (log entry 36). -/
structure SlotEnd where
  seg      : Segment
  arriving : Bool
  deriving DecidableEq, Repr

/-- The commands of the block, in the order of spec/opcode_table.json. The values of a write stand as the bytes the
request carries, high byte first, so that a value of the wrong size can be commanded too (R182, test 4). -/
inductive Instr where
  | powerOn
  | powerLoss
  | timeBaseSecond
  | midnight
  | frameArrival (seg : Segment) (frame : Frame)
  | frameAbandon (seg : Segment) (cause : AbandonCause)
  | characterGapExpiry (seg : Segment)
  | ackSlotClose (slot : SlotEnd)
  | answerCharacterReceived (seg : Segment) (char : Byte)
  | retryWaitExpiry (seg : Segment) (place : UnicastPlace)
  | transmitSelection (seg : Segment)
  | frameSent (seg : Segment)
  | duplicateWindowExpiry (station : Addr)
  | silenceLimitReached (station : Addr)
  | absencePointReached (station : Addr)
  | pollCountdownExpiry (station : Addr)
  | pollAnswerWaitExpiry
  | holdTimerExpiry (zone : ZoneId)
  | boostExpiry (zone : ZoneId)
  | fallbackDutyBoundary (zone : ZoneId)
  | priorityTimerExpiry (zone : ZoneId)
  | switchClose (output : OutputId)
  | switchOpen (output : OutputId)
  | endSwitchFirstValue (closed : BitVec 12)
  | travelExpiry (output : OutputId)
  | pumpOverrunExpiry
  | startDelayExpiry
  | pacingExpiry
  | preheatExpiry
  | boxNoResponse
  | provingExpiry
  | minimumRunExpiry
  | firingSecond
  | flameOut
  | runRise
  | runFall
  | lockoutRise
  | lockoutFall
  | coolDownExpiry
  | resetPulseEnd
  | releaseWaitExpiry
  | provingWindowExpiry
  | observeLimitExpiry
  | serviceWaitExpiry
  | resetTimeEntryExpiry
  | staleTimerExpiry
  | spacingTimerExpiry
  | contactSenseChange (relay : Relay) (closed : Bool)
  | readbackExpiry (relay : Relay)
  | alarmSend
  | sendTimeEntryExpiry
  | statusSpacingExpiry
  | statusPeriodicExpiry
  | replyHandOver
  | serviceInputChange (closed : Bool)
  | saveComplete
  | unknownCommand (req : Requester) (code : Byte) (args : List Byte)
  | readField (req : Requester) (table index field : Byte)
  | writeField (req : Requester) (table index field : Byte) (value : List Byte)
  | writeStationClass (req : Requester) (station : Addr) (value : List Byte)
  | writeStationSegment (req : Requester) (station : Addr) (which : SegmentField) (value : List Byte)
  | writePollFlag (req : Requester) (station : Addr) (value : List Byte)
  | writePollPeriod (req : Requester) (station : Addr) (value : List Byte)
  | writeZoneEnable (req : Requester) (zone : ZoneId) (value : List Byte)
  | writeValveOutput (req : Requester) (zone : ZoneId) (value : List Byte)
  | writeZoneSetting (req : Requester) (zone : ZoneId) (setting : ZoneSetting) (value : List Byte)
  | writeFloorSetting (req : Requester) (which : FloorSetting) (value : List Byte)
  | writeTankHeight (req : Requester) (value : List Byte)
  | writeStrapping (req : Requester) (target : StrapTarget) (value : List Byte)
  | writeReserveCutout (req : Requester) (which : Threshold) (value : List Byte)
  | writeNozzleRate (req : Requester) (value : List Byte)
  | writeSampleInterval (req : Requester) (value : List Byte)
  | commit (req : Requester)
  | reload (req : Requester)
  | setFloor (req : Requester) (floor : Byte)
  | setTime (req : Requester) (timeOfDay : BitVec 24) (day : Half)
  | releaseSample (req : Requester)
  | ackLeak (req : Requester)
  | clearHard (req : Requester)
  | clearFault (req : Requester)
  | clearCounters (req : Requester)
  | forcePoll (req : Requester) (address : Byte)
  | statusNow (req : Requester)
  | frameStart (seg : Segment)
  deriving DecidableEq, Repr

end Sys2Proof
end

