-- ==== Sys2Proof/Decode.lean ====
section
/-! DEFINITION. The commands that a word spells by the bits of spec/opcode_table.json: none, because the table gives no row
any bits. Frames are decoded where they arrive, in Machine/Operands.lean and Machine/Mgmt.lean. -/

namespace Sys2Proof

/-- The command that a word of so many bits spells. No row of the table has bits, so no word spells one. -/
def decodeTableWord (_nbits _w : Nat) : Option Instr := none

end Sys2Proof
end

