-- ==== Sys2Proof/Machine/Settings.lean ====
section
/-! DEFINITION. The settings of the part, that is what the settings area of the store keeps (R192), each with its
factory default (R196 and the chapter of each block). -/

namespace Sys2Proof.Machine

/-- The class of a station entry (R22). -/
inductive StationClass where
  | empty | roomUnit | tankSender | panel | serviceTool | other
  deriving DecidableEq, Repr

/-- The ingress of a forwarding rule (R34). -/
inductive Ingress where
  | a | b | either
  deriving DecidableEq, Repr

/-- The action of a forwarding rule (R34). -/
inductive RuleAction where
  | forward | block | pass
  deriving DecidableEq, Repr

/-- A forwarding rule (R34). The defaults are those of R41. -/
structure ForwardRule where
  enable      : Bool := false
  sourceValue : BitVec 5 := 0
  sourceMask  : BitVec 5 := 0
  destValue   : BitVec 5 := 0
  destMask    : BitVec 5 := 0
  kinds       : BitVec 16 := 0
  ingress     : Ingress := .either
  action      : RuleAction := .pass
  deriving DecidableEq, Repr

/-- The type of a zone (R43). -/
inductive ZoneType where
  | room | cylinder | outbuilding
  deriving DecidableEq, Repr

/-- The settings of one zone (R43). A binding list holds the addresses in the order written. -/
structure ZoneSettings where
  type       : ZoneType := .room
  enable     : Bool := false
  binding    : List Addr
  baseLevel  : Nat := 3
  frostFloor : Nat := 50
  output     : Option OutputId
  holdTime   : Nat := 1800
  duty       : Nat := 15
  boostPeriod : Nat := 3600
  limit      : Nat := 2700
  deriving DecidableEq, Repr

/-- The common settings of the zone unit and the management floor kept with them (R43). -/
structure CommonSettings where
  lowFloor     : Nat := 2
  unknownFloor : Nat := 0
  travelTime   : Nat := 90
  overrun      : Nat := 180
  mgmtFloor    : Nat := 0
  deriving DecidableEq, Repr

/-- One point slot of the strapping table (R120). -/
structure StrapPoint where
  height : Nat := 0
  volume : Nat := 0
  deriving DecidableEq, Repr

/-- The tank settings and the strapping table (R119, R120). -/
structure TankSettings where
  height     : Nat := 1200
  pointCount : Nat := 2
  jumpLimit  : Nat := 150
  staleLimit : Nat := 7200
  reserve    : Nat := 200
  cutout     : Nat := 100
  strap      : Vector StrapPoint 16 :=
    #v[{}, { height := 1200, volume := 1800 }, {}, {}, {}, {}, {}, {}, {}, {}, {}, {}, {}, {}, {}, {}]
  deriving DecidableEq, Repr

/-- The settings of the fuel accounts (R137). -/
structure AccountSettings where
  nozzleRate        : Nat := 2400
  deliveryThreshold : Nat := 100
  leakThreshold     : Nat := 40
  deriving DecidableEq, Repr

/-- The settings of the burner sequencer (R76). -/
structure BurnerSettings where
  startsPerHour    : Nat := 6
  preheatThreshold : Int := 20
  preheatTime      : Nat := 120
  responseLimit    : Nat := 30
  provingTime      : Nat := 45
  slowLimit        : Nat := 75
  minimumRun       : Nat := 240
  deriving DecidableEq, Repr

/-- The settings of the recovery unit (R99). -/
structure RecoverySettings where
  attempts     : Nat := 2
  windowBudget : Nat := 3
  coolDown     : Nat := 120
  deriving DecidableEq, Repr

/-- The thirteen enables of the alarm table, one for each kind that is not forced (R169). -/
structure AlarmEnables where
  frostCall         : Bool := true
  stationSilent     : Bool := true
  stationAbsent     : Bool := true
  segmentConflict   : Bool := true
  undelivered       : Bool := false
  valveStuck        : Bool := true
  boxNoResponse     : Bool := true
  lockout           : Bool := true
  recovered         : Bool := true
  tankLow           : Bool := true
  tankUnknown       : Bool := true
  delivery          : Bool := true
  senderImplausible : Bool := false
  deriving DecidableEq, Repr

/-- The factory settings of a zone: bound to one address, the zone number plus 1, and holding the valve output of its
own number (R43). -/
def factoryZone (z : ZoneId) : ZoneSettings :=
  { binding := [⟨z.val + 1, by omega⟩], output := some z }

/-- The working settings of every block but the station entries, whose configured fields stand in the entries
themselves (R22, R192). -/
structure Settings where
  pollPeriod     : Nat := 600
  rules          : Vector ForwardRule 16 := Vector.replicate 16 {}
  zones          : Vector ZoneSettings 12 := Vector.ofFn factoryZone
  common         : CommonSettings := {}
  tank           : TankSettings := {}
  accounts       : AccountSettings := {}
  burner         : BurnerSettings := {}
  sampleInterval : Nat := 0
  recovery       : RecoverySettings := {}
  alarms         : AlarmEnables := {}
  deriving DecidableEq, Repr

/-- What the settings area keeps of one station entry (R41). The segment is the pinned segment; an unpinned entry
keeps none. -/
structure StationConfig where
  cls     : StationClass := .empty
  pinned  : Bool := false
  segment : Option Segment := none
  silence : Nat := 900
  watched : Bool := false
  poll    : Bool := false
  deriving DecidableEq, Repr

/-- The contents of the settings area (R192). Place 0 of `stations` stands for the part itself, which has no
configuration, and is never read. -/
structure SettingsImage where
  stations : Vector StationConfig 31 := Vector.replicate 31 {}
  settings : Settings := {}
  deriving DecidableEq, Repr

/-- The factory defaults (R196). -/
def factoryImage : SettingsImage := {}

end Sys2Proof.Machine
end

