-- ==== Sys2Proof/Machine/State.lean ====
section
/-! DEFINITION. The state of the part as plain data: every block's records, lists, timers, flags and counts, the relay
drives and senses, the two store areas, and the queue of commands that wait. The default value of each field is the
one it takes at power-on with an undamaged store. -/

namespace Sys2Proof.Machine

/-- A second-counted timer: `none` while it is not running, `some n` while it runs with `n` whole seconds left. The
seconds of the time base count it down (R185); at `some 0` its time is up and its expiry is due. -/
abbrev Timer := Option Nat

/-- A timer of less than a second, in milliseconds as it was started: no second of the time base falls inside it, so
only its start and its end are seen (log entry 3). -/
abbrev ShortTimer := Option Nat

/-- A day number and a time of day, or `none` for the TIME_UNSET marker (R104, R144, R156). -/
abbrev Stamp := Option (Nat × Nat)

/-! ## The line ports (spec/01) -/

/-- The three answer characters (R5). -/
inductive Answer where
  | ack | retry | reject
  deriving DecidableEq, Repr

/-- What a port's transmit selection can choose (R17). -/
inductive Candidate where
  | reply | poll | alarm | status | crossing
  deriving DecidableEq, Repr

/-- How a port sees its segment (R1). -/
inductive Occupancy where
  /-- nothing occupies the segment -/
  | free
  /-- a frame is being assembled -/
  | receiving
  /-- reception was abandoned; the line must be quiet for 8 ms -/
  | quiet
  /-- the ack slot after the check byte of a unicast frame: a station's, with the answer the part gave in it, or the rest of the
  slot of the part's own frame once it was answered -/
  | slot (answer : Option Answer)
  /-- the 8 ms after the check byte of a broadcast frame, which has no ack slot: any character starts a new frame -/
  | hold
  /-- the part is sending a frame of its own or a crossing frame -/
  | sending (which : Candidate) (frame : Frame)
  /-- the ack slot of the part's unicast frame is open -/
  | awaiting (which : Candidate) (frame : Frame)
  /-- the slot has closed while an answer character that began in it is still arriving; `attempt` is the part's own frame
  that the character answers, absent when the slot is a station's or its answer is known (log entry 36) -/
  | late (attempt : Option (Candidate × Frame))
  deriving DecidableEq, Repr

/-- An entry of a crossing queue (R10). -/
structure QueueEntry where
  frame    : Frame
  unicast  : Bool
  attempts : Nat := 0
  wait     : ShortTimer := none
  deriving DecidableEq, Repr

/-- A unicast own frame in its slot (R15, R16). `withdrawn` marks a POLL copy that leaves at the end of the attempt in
progress. -/
structure SlotEntry where
  frame     : Frame
  attempts  : Nat := 0
  wait      : ShortTimer := none
  withdrawn : Bool := false
  deriving DecidableEq, Repr

/-- The seven counts of a segment (R18). -/
structure LineCounts where
  checkErrors : Nat := 0
  malformed   : Nat := 0
  rejects     : Nat := 0
  duplicates  : Nat := 0
  retries     : Nat := 0
  undelivered : Nat := 0
  dropped     : Nat := 0
  deriving DecidableEq, Repr

/-- One line port (R1, R10, R15, R18). `queue` is the crossing queue this port sends from: B→A at port A, A→B at
port B. `nextPoll` is a later poll's frame that waits for the poll slot (R16). -/
structure Port where
  occupancy : Occupancy := .free
  reply     : Option SlotEntry := none
  poll      : Option SlotEntry := none
  nextPoll  : Option Frame := none
  alarm     : Option Frame := none
  status    : Option Frame := none
  queue     : List QueueEntry := []
  counts    : LineCounts := {}
  deriving DecidableEq, Repr

/-! ## The station table (spec/02) -/

/-- Presence of a station (R22, R31). -/
inductive Presence where
  | unknown | present | silent | absent
  deriving DecidableEq, Repr

/-- The last accepted record of an entry, with the duplicate window its acceptance started (R22, R27). -/
structure LastAccepted where
  kind   : BitVec 4
  seq    : BitVec 4
  window : Timer
  deriving DecidableEq, Repr

/-- One of the station entries 1 to 30 (R22). `configured` is the class origin; `segment` is `none` for UNKNOWN. -/
structure Station where
  cls        : StationClass := .empty
  configured : Bool := false
  segment    : Option Segment := none
  pinned     : Bool := false
  presence   : Presence := .unknown
  age        : Nat := 0
  silence    : Nat := 900
  last       : Option LastAccepted := none
  heard      : Nat := 0
  marks      : Nat := 0
  batteryLow : Bool := false
  watched    : Bool := false
  poll       : Bool := false
  countdown  : Nat := 600
  deriving DecidableEq, Repr

/-- The phase of the in-flight poll, with the answer wait (R38). -/
inductive PollPhase where
  | sending
  | awaiting (wait : Timer)
  deriving DecidableEq, Repr

/-- The in-flight poll record (R38). For each segment: whether a copy was placed there, and whether the port has
reported that copy undelivered (R16). -/
structure InFlight where
  station      : Addr
  onA          : Bool
  onB          : Bool
  undeliveredA : Bool := false
  undeliveredB : Bool := false
  phase        : PollPhase := .sending
  deriving DecidableEq, Repr

/-- The station table (R22 to R42). Place 0 of `entries` is not an entry of the table: entry 0 describes the part, and
what of it can change stands in `ownHeard` and `ownLast` (R23). -/
structure StationTable where
  entries  : Vector Station 31 := Vector.replicate 31 {}
  ownHeard : Nat := 0
  ownLast  : Option (BitVec 4 × BitVec 4) := none
  moves    : Nat := 0
  conflicts : Nat := 0
  inFlight : Option InFlight := none
  forced   : Option Addr := none
  pointer  : Addr := 30
  deriving DecidableEq, Repr

/-! ## The zone unit (spec/03) -/

/-- The demand state of a zone (R47). -/
inductive DemandState where
  | idle | calling | held | fallback
  deriving DecidableEq, Repr

/-- The derived state of a zone (R43). `hadPresent` and `priorityCall` are the model's own: whether the last
re-evaluation found a present unit (R48), and whether a priority call stood at the last recomputation (R57). -/
structure Zone where
  demand       : DemandState := .idle
  heldCall     : Bool := false
  hold         : Timer := none
  frost        : Bool := false
  boost        : Timer := none
  level        : Nat := 0
  accepted     : Bool := false
  deferred     : Bool := false
  priority     : Timer := none
  spent        : Bool := false
  hadPresent   : Bool := false
  priorityCall : Bool := false
  deriving DecidableEq, Repr

/-- What a station last reported in a DEMAND frame (R45). An invalid temperature is `none`. -/
structure UnitRecord where
  call        : Bool
  temperature : Option Int
  setpoint    : Nat
  boostSeen   : Bool
  deriving DecidableEq, Repr

/-- The state of a valve (R61). -/
inductive ValveState where
  | closed | opening | open | closing | stuckClosed | stuckOpen
  deriving DecidableEq, Repr

/-- A valve drive with its record (R59 to R61). `switch` is the counted end switch, `some true` for closed; it has no
value until the first one is taken (R60). -/
structure Valve where
  drive  : Bool := false
  state  : ValveState := .closing
  travel : Timer := some 90
  switch : Option Bool := none
  deriving DecidableEq, Repr

/-- The zone unit (spec/03). The PUMP command stands with the relay it drives. -/
structure ZoneUnit where
  zones   : Vector Zone 12 := Vector.replicate 12 {}
  units   : Vector (Option UnitRecord) 31 := Vector.replicate 31 none
  valves  : Vector Valve 12 := Vector.replicate 12 {}
  floor   : Nat := 0
  demand  : Bool := false
  overrun : Timer := none
  deriving DecidableEq, Repr

/-! ## The burner sequencer (spec/04) -/

/-- The burner state (R71). -/
inductive BurnerState where
  | standby | delayed | pacing | preheat | called | starting | firing | runOn | lockedOut | hardLocked | outputFault
  deriving DecidableEq, Repr

/-- The burner sequencer (R71). `start` tells whether a start is in progress, and if so whether it has reached FIRING
(R95); the call clock counts while one is. -/
structure Burner where
  state         : BurnerState := .delayed
  demand        : Bool := false
  startTimes    : List Nat := []
  preheatChosen : Bool := false
  callClock     : Nat := 0
  latency       : Option Nat := none
  run           : Bool := false
  start         : Option Bool := none
  startDelay    : Timer := some 60
  pacing        : Timer := none
  preheat       : Timer := none
  response      : Timer := none
  proving       : Timer := none
  minimumRun    : Timer := none
  flameOut      : Timer := none
  firingSecond  : Timer := none
  deriving DecidableEq, Repr

/-! ## The lockout recovery unit (spec/05) -/

/-- The recovery state (R98). -/
inductive RecoveryState where
  | idle | cooling | resetting | observing | suspended | hard
  deriving DecidableEq, Repr

/-- The tank state (R130). -/
inductive TankState where
  | normal | low | empty | unknown
  deriving DecidableEq, Repr

/-- The cause of a lockout record (R104). -/
inductive LockoutCause where
  | fuel | ignition | flameLoss | idleLockout
  deriving DecidableEq, Repr

/-- The outcome of a lockout record (R104). -/
inductive RecordOutcome where
  | open | recovered | untested | cleared | interrupted
  deriving DecidableEq, Repr

/-- A lockout record (R104). -/
structure LockoutRecord where
  number      : Nat
  opened      : Stamp
  phase       : BurnerState
  sinceCall   : Option Nat
  tank        : TankState
  volume      : Option Nat
  leak        : Bool
  cause       : LockoutCause
  fuelUnknown : Bool
  attempts    : Nat := 0
  failed      : Nat := 0
  hand        : Bool := false
  outcome     : RecordOutcome := .open
  deriving DecidableEq, Repr

/-- Why HARD was entered (R102). -/
inductive HardReason where
  | attempts | window | relay
  deriving DecidableEq, Repr

/-- The lockout recovery unit (R98). The RESET command stands with the relay it drives; `suspend` is the standing value
of the suspend condition (R100). -/
structure Recovery where
  state      : RecoveryState := .idle
  records    : List LockoutRecord := []
  resetTimes : List Nat := []
  hardLatch  : Bool := false
  lockout    : Bool := false
  suspend    : Bool := false
  coolDown   : Timer := none
  release    : Timer := none
  observe    : Timer := none
  window     : Timer := none
  service    : Timer := none
  pulse      : Timer := none
  deriving DecidableEq, Repr

/-! ## The tank gauge (spec/06) -/

/-- The seven gauge counts (R133). -/
structure GaugeCounts where
  noEcho         : Nat := 0
  implausible    : Nat := 0
  weakEcho       : Nat := 0
  discarded      : Nat := 0
  lowEntries     : Nat := 0
  emptyEntries   : Nat := 0
  unknownEntries : Nat := 0
  deriving DecidableEq, Repr

/-- The tank gauge (R119 to R136). The sender temperature is `none` while it is unknown. -/
structure Tank where
  valid       : Bool := true
  window      : List Nat := []
  pendingSlot : Option Nat := none
  stale       : Timer := none
  volume      : Option Nat := none
  state       : TankState := .unknown
  temperature : Option Int := none
  tempAge     : Nat := 0
  counts      : GaugeCounts := {}
  deriving DecidableEq, Repr

/-- Why the measured volume became UNKNOWN (R131). -/
inductive UnknownCause where
  | stale | tableInvalid | heightWritten
  deriving DecidableEq, Repr

/-! ## The fuel accounts (spec/07) -/

/-- The last delivery record (R144). -/
structure Delivery where
  stamp  : Stamp
  added  : Nat
  volume : Nat
  deriving DecidableEq, Repr

/-- The fuel accounts (spec/07). The reference volume is `none` while the book UNSET flag is set (R140). -/
structure Accounts where
  residue      : Nat := 0
  burned       : Nat := 0
  reference    : Option Nat := none
  spacing      : Timer := none
  strikes      : Nat := 0
  leak         : Bool := false
  lastDelivery : Option Delivery := none
  tally        : Nat := 0
  ring         : List Nat := []
  deriving DecidableEq, Repr

/-! ## The start sampler (spec/08) -/

/-- The sample phase (R154). SAMPLE_VALID is set exactly in `valid`. -/
inductive SamplePhase where
  | none | filling | valid | released
  deriving DecidableEq, Repr

/-- How a start ended (R95). -/
inductive EndCause where
  | normalEnd | demandLost | noResponse | lockout | fault
  deriving DecidableEq, Repr

/-- The start sample record (R156). -/
structure SampleRecord where
  number   : Nat
  called   : Stamp
  preheat  : Bool
  volume   : Option Nat
  accepted : BitVec 12
  latency  : Option Nat := none
  seconds  : Nat := 0
  flameOuts : Nat := 0
  endCause : Option EndCause := none
  deriving DecidableEq, Repr

/-- The seven run counters (R161). -/
structure RunCounters where
  starts     : Nat := 0
  firing     : Nat := 0
  lockouts   : Nat := 0
  autoResets : Nat := 0
  flameOuts  : Nat := 0
  slowStarts : Nat := 0
  noResponse : Nat := 0
  deriving DecidableEq, Repr

/-- The start sampler (R154, R161). -/
structure Sampler where
  count    : Nat := 0
  phase    : SamplePhase := .none
  record   : Option SampleRecord := Option.none
  counters : RunCounters := {}
  deriving DecidableEq, Repr

/-! ## The output monitor and the alarm unit (spec/09) -/

/-- The readback phase of a relay (R164). -/
inductive ReadbackPhase where
  | checking | settled
  deriving DecidableEq, Repr

/-- One relay (R164): the command its owner handed over, the command the drive follows, the counted contact sense
(`true` is closed), the readback phase and timer, and the fault latch. -/
structure RelayState where
  command : Bool := false
  drive   : Bool := false
  sense   : Bool := false
  phase   : ReadbackPhase := .checking
  timer   : ShortTimer := some 500
  fault   : Bool := false
  deriving DecidableEq, Repr

/-- The four relays. -/
structure Monitor where
  burner  : RelayState := {}
  reset   : RelayState := {}
  pump    : RelayState := {}
  preheat : RelayState := {}
  deriving DecidableEq, Repr

/-- The alarm kinds (R21, section 9.3). -/
inductive AlarmKind where
  | frostCall | stationSilent | stationAbsent | segmentConflict | undelivered | valveStuck | boxNoResponse | lockout
  | recovered | hardLockout | relayFault | tankLow | tankEmpty | tankUnknown | leakSuspect | delivery
  | senderImplausible | settingsLost | runningLost
  deriving DecidableEq, Repr

/-- An entry of the pending alarm set (R170). The detail is bytes 1 to 3 of the ALARM frame, byte 1 highest. -/
structure AlarmEntry where
  kind   : AlarmKind
  detail : BitVec 24
  count  : Nat
  deriving DecidableEq, Repr

/-- The alarm unit (R170, R174, R175). -/
structure AlarmUnit where
  waiting   : List AlarmEntry := []
  sendTimes : List Nat := []
  spacing   : Timer := none
  periodic  : Timer := none
  due       : Bool := false
  deriving DecidableEq, Repr

/-! ## The management unit, the time base and the store (spec/10, spec/11) -/

/-- The rights of a request (R178). -/
inductive Rights where
  | panel | serviceTool
  deriving DecidableEq, Repr

/-- The request in hand (R179), with its reply once that is built. -/
structure Hand where
  requester : Requester
  code      : Byte
  args      : List Byte
  rights    : Rights
  reply     : Option Frame
  deriving DecidableEq, Repr

/-- The management unit, which is handling exactly while it holds a request, with the SERVICE input's counted value
(R178, R179). -/
structure Mgmt where
  hand    : Option Hand := none
  handled : Nat := 0
  service : Bool := false
  deriving DecidableEq, Repr

/-- The time base (R185). `midnight` is the model's own: a midnight was counted and is handed to the fuel accounts, which
have not taken it yet (log entry 4). -/
structure TimeBase where
  timeOfDay : Nat := 0
  day       : Nat := 0
  unset     : Bool := true
  midnight  : Bool := false
  deriving DecidableEq, Repr

/-- The contents of the running area (R192). -/
structure RunningImage where
  reference    : Option Nat := none
  burned       : Nat := 0
  residue      : Nat := 0
  leak         : Bool := false
  lastDelivery : Option Delivery := none
  ring         : List Nat := []
  records      : List LockoutRecord := []
  resetTimes   : List Nat := []
  hardLatch    : Bool := false
  starts       : Nat := 0
  firing       : Nat := 0
  lockouts     : Nat := 0
  autoResets   : Nat := 0
  deriving DecidableEq, Repr

/-- A store area: its contents and the check value stored behind them (R192). -/
structure Area (α : Type) where
  contents : α
  check    : Half
  deriving DecidableEq, Repr

/-- What the store is doing, with the contents it took at the save's start (R193). -/
inductive StoreActivity where
  | idle
  | savingSettings (image : SettingsImage)
  | savingRunning (image : RunningImage)
  deriving DecidableEq, Repr

/-- The settings store (R192, R193, R196). -/
structure Store where
  settings        : Area SettingsImage
  running         : Area RunningImage
  activity        : StoreActivity := .idle
  settingsPending : Bool := false
  runningPending  : Bool := false
  settingsFailed  : Bool := false
  runningFailed   : Bool := false
  deriving DecidableEq, Repr

/-- The state of the part. `pending` is the queue of commands that wait, first in, first out; `free` is the counter that
the free values of Config are applied to; `powered` tells whether the supply is on (R194, R195). The last two are the
model's own. -/
structure State where
  pending  : List Instr := []
  powered  : Bool := true
  free     : Nat := 0
  settings : Settings := {}
  portA    : Port := {}
  portB    : Port := {}
  ownSeq   : BitVec 4 := 0
  table    : StationTable := {}
  zones    : ZoneUnit := {}
  burner   : Burner := {}
  recovery : Recovery := {}
  tank     : Tank := {}
  accounts : Accounts := {}
  sampler  : Sampler := {}
  monitor  : Monitor := {}
  alarms   : AlarmUnit := {}
  mgmt     : Mgmt := {}
  time     : TimeBase := {}
  store    : Store
  deriving DecidableEq, Repr

/-- There is no fault: the spec describes no event that stops the part. The type is empty, so no command can fault, which
is safe. -/
inductive Fault where
  deriving DecidableEq, Repr

/-- Why a command has no meaning. -/
inductive Refusal where
  /-- Raised only by an arm of `exec` whose command has no meaning yet; safe, because nothing happens. No arm raises it:
  every command of the table has its meaning. -/
  | notModelled (mnemonic : String)
  deriving DecidableEq, Repr

/-- The first STATUS frame, built when power-on completes (R175, R195): DELAYED, IDLE, an UNKNOWN tank at floor 0, volume
UNKNOWN, no accepted zone, TIME_UNSET set, own-frame sequence 0. -/
def firstStatus : Frame :=
  { dest := 31, source := 0, kind := 4, seq := 0, payload := [1, 0, 0x30, 0xFF, 0xFF, 0, 0, 8], check := 0x58 }

/-- The part right after power-on with an undamaged store that holds the factory defaults and no running record (R195).
What a store holds that nothing has saved to is the model's choice: log entry 2. -/
def State.reset : State :=
  { portA := { status := some firstStatus }
    portB := { status := some firstStatus }
    ownSeq := 1
    table := { ownLast := some (4, 0) }
    alarms := { spacing := some 5, periodic := some 60 }
    store := { settings := ⟨factoryImage, 0x87BD⟩, running := ⟨{}, 0x86C1⟩ } }

end Sys2Proof.Machine
end

