-- ==== Sys2Proof/Machine/Ops.lean ====
section
/-! DEFINITION. The named operations every block is written with: timers, saturating counts, the places of the state a
command reaches, the check values of frames and store areas, and the building of frames. Taking an exception has no
counterpart here: the part has none. -/

namespace Sys2Proof.Machine

/-! ## Fixed durations, in seconds unless a name says milliseconds -/

/-- The duplicate window (R27). -/
def duplicateWindow : Nat := 2
/-- The answer wait of a poll (R38). -/
def answerWait : Nat := 2
/-- The retry wait after RETRY, in milliseconds (R12). -/
def retryWaitMs : Nat := 100
/-- The retry wait after silence, in milliseconds (R12). -/
def silenceWaitMs : Nat := 250
/-- The attempts a unicast frame has (R12, R16). -/
def maxAttempts : Nat := 4
/-- The frames a crossing queue holds (R10). -/
def queueLimit : Nat := 8
/-- The start delay (R76). -/
def startDelayTime : Nat := 60
/-- The flame-out wait (R76). -/
def flameOutWait : Nat := 10
/-- The firing-second period (R86). -/
def firingPeriod : Nat := 1
/-- The age at which a start leaves the start-time list (R77). -/
def startListAge : Nat := 3600
/-- The age above which the sender temperature is too old (R80). -/
def staleTemperatureAge : Nat := 3600
/-- The reset pulse (R99). -/
def pulseTime : Nat := 1
/-- The release wait (R99). -/
def releaseWaitTime : Nat := 10
/-- The observe limit (R99). -/
def observeLimitTime : Nat := 21600
/-- The proving window (R99). -/
def provingWindowTime : Nat := 300
/-- The service wait (R99). -/
def serviceWaitTime : Nat := 10
/-- The age at which a pulse leaves the reset-time list (R101). -/
def resetListAge : Nat := 86400
/-- The records of the lockout record list (R105). -/
def recordLimit : Nat := 8
/-- The reconciliation spacing (R142). -/
def spacingTime : Nat := 3600
/-- The readback time, in milliseconds (R165). -/
def readbackMs : Nat := 500
/-- The STATUS spacing (R175). -/
def statusSpacing : Nat := 5
/-- The STATUS period (R175). -/
def statusPeriod : Nat := 60
/-- The age at which a send leaves the alarm send-time list, and the sends it holds (R174). -/
def sendListAge : Nat := 60
def sendListLimit : Nat := 4
/-- The seconds of a day and of an hour (R185, R49). -/
def daySeconds : Nat := 86400
def hourSeconds : Nat := 3600
/-- The upper limits of 16-bit and 32-bit counts. -/
def max16 : Nat := 65535
def max32 : Nat := 4294967295

/-! ## Counts and timers -/

/-- One more, stopping at a limit (spec/00, section 5.2: "saturate"). -/
def satInc (limit n : Nat) : Nat := min (n + 1) limit

/-- One more on a 16-bit count. -/
def inc16 (n : Nat) : Nat := satInc max16 n

/-- One more on a 32-bit count. -/
def inc32 (n : Nat) : Nat := satInc max32 n

/-- A timer started with its duration. -/
def startTimer (n : Nat) : Timer := some n

/-- A timer whose setting may be 0, which starts no timer (R48, R66, R87). -/
def startUnlessZero (n : Nat) : Timer := if n = 0 then none else some n

/-- One second off a running timer (R185). -/
def tickTimer (t : Timer) : Timer := t.map (· - 1)

/-- A running timer whose time is up, so that its expiry can be taken. -/
def isDue (t : Timer) : Bool := t == some 0

/-- A value within a range: the nearer end of it when outside (R182, test 6). -/
def clamp (lo hi n : Nat) : Nat := max lo (min n hi)

def clampInt (lo hi n : Int) : Int := max lo (min n hi)

/-! ## Tables -/

/-- A table with one place replaced. -/
def upd {α : Type} {n : Nat} (v : Vector α n) (i : Fin n) (x : α) : Vector α n := v.set i.val x i.isLt

/-- A table with every place replaced by a function of its number and contents. -/
def mapAll {α β : Type} {n : Nat} (f : Fin n → α → β) (v : Vector α n) : Vector β n := Vector.ofFn fun i => f i v[i]

/-- The places of a table, in order. -/
def places (n : Nat) : List (Fin n) := List.finRange n

/-- The same operation done for each of a list of places, in order. -/
def forEach {ι σ : Type} (l : List ι) (f : ι → σ → σ) (s : σ) : σ := l.foldl (fun s i => f i s) s

/-- The last `n` members of a list: what is left when the oldest leave a full list. -/
def lastOf {α : Type} (n : Nat) (l : List α) : List α := l.drop (l.length - n)

/-! ## The places of the state -/

/-- The segment opposite to one. -/
def otherSegment : Segment → Segment
  | .a => .b
  | .b => .a

def State.port (s : State) : Segment → Port
  | .a => s.portA
  | .b => s.portB

def State.setPort (s : State) (seg : Segment) (p : Port) : State :=
  match seg with
  | .a => { s with portA := p }
  | .b => { s with portB := p }

def State.setOccupancy (s : State) (seg : Segment) (o : Occupancy) : State :=
  s.setPort seg { s.port seg with occupancy := o }

/-- One of a segment's counts advanced (R18). -/
def State.countLine (s : State) (seg : Segment) (f : LineCounts → LineCounts) : State :=
  s.setPort seg { s.port seg with counts := f (s.port seg).counts }

def State.station (s : State) (a : Addr) : Station := s.table.entries[a]

def State.setStation (s : State) (a : Addr) (e : Station) : State :=
  { s with table := { s.table with entries := upd s.table.entries a e } }

def State.zone (s : State) (z : ZoneId) : Zone := s.zones.zones[z]

def State.setZone (s : State) (z : ZoneId) (r : Zone) : State :=
  { s with zones := { s.zones with zones := upd s.zones.zones z r } }

/-- The settings of a zone. -/
def State.zoneCfg (s : State) (z : ZoneId) : ZoneSettings := s.settings.zones[z]

def State.setZoneCfg (s : State) (z : ZoneId) (c : ZoneSettings) : State :=
  { s with settings := { s.settings with zones := upd s.settings.zones z c } }

def State.unitRecord (s : State) (a : Addr) : Option UnitRecord := s.zones.units[a]

def State.setUnit (s : State) (a : Addr) (u : Option UnitRecord) : State :=
  { s with zones := { s.zones with units := upd s.zones.units a u } }

def State.valve (s : State) (o : OutputId) : Valve := s.zones.valves[o]

def State.setValve (s : State) (o : OutputId) (v : Valve) : State :=
  { s with zones := { s.zones with valves := upd s.zones.valves o v } }

def State.relay (s : State) : Relay → RelayState
  | .burner => s.monitor.burner
  | .reset => s.monitor.reset
  | .pump => s.monitor.pump
  | .preheat => s.monitor.preheat

def State.setRelay (s : State) (r : Relay) (x : RelayState) : State :=
  { s with monitor :=
      match r with
      | .burner => { s.monitor with burner := x }
      | .reset => { s.monitor with reset := x }
      | .pump => { s.monitor with pump := x }
      | .preheat => { s.monitor with preheat := x } }

/-- The four relays, in the order of R172. -/
def allRelays : List Relay := [.burner, .reset, .pump, .preheat]

/-- Whether a station table records a station on a segment (R22): its class is not EMPTY and its segment is that one. The
part itself, address 0, is recorded on none (R23). -/
def recordedOn (s : State) (a : Addr) (seg : Segment) : Bool :=
  a != 0 && (s.station a).cls != .empty && (s.station a).segment == some seg

/-- The day and time of a record opened now, or the TIME_UNSET marker (R104, R144, R156). -/
def stampNow (s : State) : Stamp := if s.time.unset then none else some (s.time.day, s.time.timeOfDay)

/-! ## Byte order, and the check values -/

/-- A number as two bytes, high byte first (R20). -/
def bytes2 (n : Nat) : List Byte := [BitVec.ofNat 8 (n / 256), BitVec.ofNat 8 n]

/-- A number as so many bytes, high byte first. -/
def bytesOf : Nat → Nat → List Byte
  | 0, _ => []
  | k + 1, n => bytesOf k (n / 256) ++ [BitVec.ofNat 8 n]

/-- The number that bytes spell, high byte first. -/
def numberOf (bs : List Byte) : Nat := bs.foldl (fun n b => n * 256 + b.toNat) 0

/-- One bit of the CRC-8 (R3): generator 0x07. -/
def crc8Bit (c : Byte) : Byte := if c.msb then (c <<< 1) ^^^ 0x07 else c <<< 1

/-- One byte into the CRC-8, most significant bit first (R3). -/
def crc8Byte (c b : Byte) : Byte :=
  crc8Bit (crc8Bit (crc8Bit (crc8Bit (crc8Bit (crc8Bit (crc8Bit (crc8Bit (c ^^^ b))))))))

/-- The CRC-8 of R3: it starts from 0, with no reflection and no final inversion. -/
def crc8 (bs : List Byte) : Byte := bs.foldl crc8Byte 0

/-- One bit of the CRC-16 (R192): generator 0x1021. -/
def crc16Bit (c : Half) : Half := if c.msb then (c <<< 1) ^^^ 0x1021 else c <<< 1

/-- One byte into the CRC-16, most significant bit first (R192). -/
def crc16Byte (c : Half) (b : Byte) : Half :=
  crc16Bit (crc16Bit (crc16Bit (crc16Bit (crc16Bit (crc16Bit (crc16Bit (crc16Bit (c ^^^ (b ++ (0 : Byte))))))))))

/-- A function applied to a number that is known first: the same as `f n`, written so that Lean's kernel has the number
before it goes on. -/
def knowing {α : Type} (n : Nat) (f : Nat → α) : α :=
  match n with
  | 0 => f 0
  | k + 1 => f (k + 1)

/-- Bytes fed one after another into a running CRC-16. -/
def crc16Feed : List Byte → Half → Half
  | [], c => c
  | b :: bs, c => knowing (crc16Byte c b).toNat fun n => crc16Feed bs (BitVec.ofNat 16 n)

/-- The CRC-16 of R192: it starts from 0xFFFF, with no reflection and no final inversion. -/
def crc16 (bs : List Byte) : Half := crc16Feed bs 0xFFFF

/-! ## Frames -/

/-- The bytes of a frame before its check byte (R20). -/
def frameBody (f : Frame) : List Byte :=
  [f.dest, f.source, f.kind ++ f.seq, BitVec.ofNat 8 f.payload.length] ++ f.payload

/-- Whether a frame passes its check (R3). -/
def frameChecks (f : Frame) : Bool := crc8 (frameBody f) == f.check

/-- A frame of the part, with its check byte (R14). -/
def buildFrame (dest : Byte) (kind seq : BitVec 4) (payload : List Byte) : Frame :=
  let f : Frame := { dest := dest, source := 0, kind := kind, seq := seq, payload := payload, check := 0 }
  { f with check := crc8 (frameBody f) }

/-- The part's own-frame sequence advanced for one POLL, ALARM or STATUS built, which entry 0 shows as its last accepted
record (R14, R23). The frame carries the sequence held before. -/
def State.takeSeq (s : State) (kind : BitVec 4) : State :=
  { s with ownSeq := s.ownSeq + 1, table := { s.table with ownLast := some (kind, s.ownSeq) } }

/-- A command taken only while the supply is on: a part without power does nothing (R194; log entry 7). -/
def whenPowered (s : State) (f : State → State) : Host.Outcome State Fault Refusal :=
  .next (if s.powered then f s else s)

end Sys2Proof.Machine
end

