-- ==== Sys2Proof/Machine/Operands.lean ====
section
/-! DEFINITION. The forms operands take: the fields of arriving frames (R20), the code values of enumerations in both
directions (R21, R172, R189 to R191), and the value forms of a table field (R181). -/

namespace Sys2Proof.Machine

/-! ## Fields of a frame -/

/-- The entry a byte of a header names; none above 30. -/
def addrOf (b : Byte) : Option Addr := if h : b.toNat < 31 then some ⟨b.toNat, h⟩ else none

def broadcastAddress : Byte := 31

def kindDemand : BitVec 4 := 1
def kindLevel : BitVec 4 := 2
def kindPoll : BitVec 4 := 3
def kindStatus : BitVec 4 := 4
def kindAlarm : BitVec 4 := 5
def kindRequest : BitVec 4 := 6
def kindReply : BitVec 4 := 7

/-- A byte of a payload, counted from its first. -/
def payloadByte (f : Frame) (i : Nat) : Byte := f.payload.getD i 0

/-- A 16-bit field of a payload, high byte first. -/
def payloadHalf (f : Frame) (i : Nat) : Half := payloadByte f i ++ payloadByte f (i + 1)

/-- A temperature that lies in the valid range, −400 to +850 tenths of °C (R20, R45, R123). -/
def validTemperature (t : Int) : Option Int := if -400 ≤ t ∧ t ≤ 850 then some t else none

/-- What a DEMAND frame reports (R20, R45): the setpoint, signed as every temperature is (spec/00 section 5.2, log entry
20), is clamped; a temperature outside its range is invalid. The boost-seen field becomes the boost-request bit. -/
def demandRecord (f : Frame) : UnitRecord :=
  { call := (payloadByte f 4).getLsbD 0
    temperature := validTemperature (payloadHalf f 0).toInt
    setpoint := (clampInt 50 350 (payloadHalf f 2).toInt).toNat
    boostSeen := (payloadByte f 4).getLsbD 1 }

/-- The battery-low bit of a DEMAND frame (R20). -/
def demandBatteryLow (f : Frame) : Bool := (payloadByte f 4).getLsbD 2

/-- The ullage of a LEVEL frame; `none` for 0xFFFF, no echo (R20, R122). -/
def levelUllage (f : Frame) : Option Nat :=
  if payloadHalf f 0 = 0xFFFF then none else some (payloadHalf f 0).toNat

/-- The sender temperature of a LEVEL frame (R20). -/
def levelTemperature (f : Frame) : Int := (payloadHalf f 2).toInt

/-- The weak-echo bit of a LEVEL frame (R20). -/
def levelWeakEcho (f : Frame) : Bool := (payloadByte f 4).getLsbD 0

/-! ## Answer characters (R21) -/

def answerCode : Answer → Byte
  | .ack => 0x6A
  | .retry => 0x95
  | .reject => 0xC9

/-- The answer a character is, if it is one. -/
def answerOf (c : Byte) : Option Answer :=
  if c = 0x6A then some .ack else if c = 0x95 then some .retry else if c = 0xC9 then some .reject else none

/-! ## Codes of states and enumerations -/

def burnerCode : BurnerState → Nat
  | .standby => 0 | .delayed => 1 | .pacing => 2 | .preheat => 3 | .called => 4 | .starting => 5 | .firing => 6
  | .runOn => 7 | .lockedOut => 8 | .hardLocked => 9 | .outputFault => 10

def recoveryCode : RecoveryState → Nat
  | .idle => 0 | .cooling => 1 | .resetting => 2 | .observing => 3 | .suspended => 4 | .hard => 5

def tankCode : TankState → Nat
  | .normal => 0 | .low => 1 | .empty => 2 | .unknown => 3

def alarmCode : AlarmKind → Nat
  | .frostCall => 1 | .stationSilent => 2 | .stationAbsent => 3 | .segmentConflict => 4 | .undelivered => 5
  | .valveStuck => 6 | .boxNoResponse => 7 | .lockout => 8 | .recovered => 9 | .hardLockout => 10 | .relayFault => 11
  | .tankLow => 12 | .tankEmpty => 13 | .tankUnknown => 14 | .leakSuspect => 15 | .delivery => 16
  | .senderImplausible => 17 | .settingsLost => 18 | .runningLost => 19

/-- The alarm kinds in the order of their codes. -/
def allAlarmKinds : List AlarmKind :=
  [.frostCall, .stationSilent, .stationAbsent, .segmentConflict, .undelivered, .valveStuck, .boxNoResponse, .lockout,
   .recovered, .hardLockout, .relayFault, .tankLow, .tankEmpty, .tankUnknown, .leakSuspect, .delivery,
   .senderImplausible, .settingsLost, .runningLost]

/-- The alarm kind of a code, 1 to 19. -/
def alarmOfCode (n : Nat) : Option AlarmKind := allAlarmKinds.find? (alarmCode · == n)

def classCode : StationClass → Nat
  | .empty => 0 | .roomUnit => 1 | .tankSender => 2 | .panel => 3 | .serviceTool => 4 | .other => 5

def classOfCode : Nat → Option StationClass
  | 0 => some .empty | 1 => some .roomUnit | 2 => some .tankSender | 3 => some .panel | 4 => some .serviceTool
  | 5 => some .other | _ => none

def segmentCode : Option Segment → Nat
  | some .a => 0 | some .b => 1 | none => 2

/-- The segment a code stands for; the inner `none` is UNKNOWN. -/
def segmentOfCode : Nat → Option (Option Segment)
  | 0 => some (some .a) | 1 => some (some .b) | 2 => some none | _ => none

def presenceCode : Presence → Nat
  | .unknown => 0 | .present => 1 | .silent => 2 | .absent => 3

def ingressCode : Ingress → Nat
  | .a => 0 | .b => 1 | .either => 2

def ingressOfCode : Nat → Option Ingress
  | 0 => some .a | 1 => some .b | 2 => some .either | _ => none

def actionCode : RuleAction → Nat
  | .forward => 0 | .block => 1 | .pass => 2

def actionOfCode : Nat → Option RuleAction
  | 0 => some .forward | 1 => some .block | 2 => some .pass | _ => none

def zoneTypeCode : ZoneType → Nat
  | .room => 0 | .cylinder => 1 | .outbuilding => 2

def zoneTypeOfCode : Nat → Option ZoneType
  | 0 => some .room | 1 => some .cylinder | 2 => some .outbuilding | _ => none

def demandCode : DemandState → Nat
  | .idle => 0 | .calling => 1 | .held => 2 | .fallback => 3

def valveCode : ValveState → Nat
  | .closed => 0 | .opening => 1 | .open => 2 | .closing => 3 | .stuckClosed => 4 | .stuckOpen => 5

def causeCode : LockoutCause → Nat
  | .fuel => 0 | .ignition => 1 | .flameLoss => 2 | .idleLockout => 3

def outcomeCode : RecordOutcome → Nat
  | .open => 0 | .recovered => 1 | .untested => 2 | .cleared => 3 | .interrupted => 4

def hardReasonCode : HardReason → Nat
  | .attempts => 0 | .window => 1 | .relay => 2

def unknownCauseCode : UnknownCause → Nat
  | .stale => 0 | .tableInvalid => 1 | .heightWritten => 2

def relayCode : Relay → Nat
  | .burner => 0 | .reset => 1 | .pump => 2 | .preheat => 3

def samplePhaseCode : SamplePhase → Nat
  | .none => 0 | .filling => 1 | .valid => 2 | .released => 3

def endCauseCode : EndCause → Nat
  | .normalEnd => 0 | .demandLost => 1 | .noResponse => 2 | .lockout => 3 | .fault => 4

def phaseCode : ReadbackPhase → Nat
  | .checking => 0 | .settled => 1

def pollPhaseCode : PollPhase → Nat
  | .sending => 0 | .awaiting _ => 1

def flagCode (b : Bool) : Nat := if b then 1 else 0

def flagOfCode : Nat → Option Bool
  | 0 => some false | 1 => some true | _ => none

/-! ## Details of an alarm (R172): bytes 1 to 3, byte 1 highest -/

def detailBytes (b1 b2 b3 : Nat) : BitVec 24 := BitVec.ofNat 8 b1 ++ BitVec.ofNat 8 b2 ++ BitVec.ofNat 8 b3

def detailByteHalf (b : Nat) (h : Half) : BitVec 24 := BitVec.ofNat 8 b ++ h

def detailHalfByte (h b : Nat) : BitVec 24 := BitVec.ofNat 16 h ++ BitVec.ofNat 8 b

/-! ## Values of table fields (R181) -/

/-- A signed quantity of two bytes, two's complement. -/
def signed16 (i : Int) : Nat := (BitVec.ofInt 16 i).toNat

/-- An optional value, or all ones of so many bytes. -/
def orOnes (size : Nat) : Option Nat → Nat
  | some n => n
  | none => 256 ^ size - 1

end Sys2Proof.Machine
end

