-- ==== Sys2Proof/Machine/Flags.lean ====
section
/-! DEFINITION. The values the part derives from its state to show on the line: the accepted zone set, the STATUS flags,
the STATUS payload and the packed status. -/

namespace Sys2Proof.Machine

/-- The accepted zone set: bit n for zone n, deferred zones included (R20, R56). -/
def acceptedSet (s : State) : BitVec 12 :=
  (places 12).foldl (fun w z => if (s.zone z).accepted then w ||| BitVec.twoPow 12 z.val else w) 0

/-- SAMPLE_VALID is set exactly while the sample phase is VALID (R154). -/
def sampleValid (s : State) : Bool := s.sampler.phase == .valid

/-- The output-fault flag: set while any of the four fault latches is set (R167). -/
def outputFaultFlag (s : State) : Bool := allRelays.any fun r => (s.relay r).fault

/-- The STATUS flags: bit 0 SAMPLE_VALID, bit 1 leak latch, bit 2 output fault, bit 3 TIME_UNSET (R20). -/
def statusFlags (s : State) : BitVec 4 :=
  BitVec.ofBool s.time.unset ++ BitVec.ofBool (outputFaultFlag s) ++ BitVec.ofBool s.accounts.leak
    ++ BitVec.ofBool (sampleValid s)

/-- The measured volume as STATUS shows it, 0xFFFF for UNKNOWN (R20). -/
def volumeField (s : State) : Nat := orOnes 2 s.tank.volume

/-- Byte 2 of a STATUS payload: the tank state code above the effective floor (R20). -/
def tankFloorByte (s : State) : Byte := BitVec.ofNat 4 (tankCode s.tank.state) ++ BitVec.ofNat 4 s.zones.floor

/-- The eight payload bytes of a STATUS frame, from the values its sources hold (R20, R176). -/
def statusPayload (s : State) : List Byte :=
  [BitVec.ofNat 8 (burnerCode s.burner.state), BitVec.ofNat 8 (recoveryCode s.recovery.state), tankFloorByte s]
    ++ bytes2 (volumeField s) ++ bytes2 (acceptedSet s).toNat ++ [(statusFlags s).setWidth 8]

/-- The six bytes of the packed status (R20, R188). -/
def packedStatus (s : State) : List Byte :=
  [BitVec.ofNat 4 (burnerCode s.burner.state) ++ BitVec.ofNat 4 (recoveryCode s.recovery.state), tankFloorByte s]
    ++ bytes2 (volumeField s) ++ bytes2 (statusFlags s ++ acceptedSet s).toNat

end Sys2Proof.Machine
end

