-- ==== Sys2Proof/Machine/Alarms.lean ====
section
/-! DEFINITION. The alarm unit (spec/09, sections 9.3 to 9.6): raising alarms, sending them under pacing, and STATUS
frames. -/

namespace Sys2Proof.Machine

/-! ## Raising -/

/-- The forced kinds, which have no enable (R169, section 9.3). -/
def isForced : AlarmKind → Bool
  | .hardLockout | .relayFault | .tankEmpty | .leakSuspect | .settingsLost | .runningLost => true
  | .frostCall | .stationSilent | .stationAbsent | .segmentConflict | .undelivered | .valveStuck | .boxNoResponse
  | .lockout | .recovered | .tankLow | .tankUnknown | .delivery | .senderImplausible => false

/-- The enable of a kind; a forced kind reads as enabled (R169). -/
def enableOf (e : AlarmEnables) : AlarmKind → Bool
  | .frostCall => e.frostCall
  | .stationSilent => e.stationSilent
  | .stationAbsent => e.stationAbsent
  | .segmentConflict => e.segmentConflict
  | .undelivered => e.undelivered
  | .valveStuck => e.valveStuck
  | .boxNoResponse => e.boxNoResponse
  | .lockout => e.lockout
  | .recovered => e.recovered
  | .tankLow => e.tankLow
  | .tankUnknown => e.tankUnknown
  | .delivery => e.delivery
  | .senderImplausible => e.senderImplausible
  | .hardLockout | .relayFault | .tankEmpty | .leakSuspect | .settingsLost | .runningLost => true

/-- The alarm table with one enable written (R169); a forced kind has none to write. -/
def setEnable (e : AlarmEnables) (b : Bool) : AlarmKind → AlarmEnables
  | .frostCall => { e with frostCall := b }
  | .stationSilent => { e with stationSilent := b }
  | .stationAbsent => { e with stationAbsent := b }
  | .segmentConflict => { e with segmentConflict := b }
  | .undelivered => { e with undelivered := b }
  | .valveStuck => { e with valveStuck := b }
  | .boxNoResponse => { e with boxNoResponse := b }
  | .lockout => { e with lockout := b }
  | .recovered => { e with recovered := b }
  | .tankLow => { e with tankLow := b }
  | .tankUnknown => { e with tankUnknown := b }
  | .delivery => { e with delivery := b }
  | .senderImplausible => { e with senderImplausible := b }
  | .hardLockout | .relayFault | .tankEmpty | .leakSuspect | .settingsLost | .runningLost => e

/-- A raise against the pending alarm set: a pending entry keeps its place, takes the new detail and counts up to 255; a
kind not pending joins at the tail (R171). -/
def raiseInto (k : AlarmKind) (d : BitVec 24) (l : List AlarmEntry) : List AlarmEntry :=
  if l.any (·.kind == k) then
    l.map fun e => if e.kind = k then { e with detail := d, count := satInc 255 e.count } else e
  else l ++ [{ kind := k, detail := d, count := 1 }]

/-- A raise of a kind with its detail (R171). A kind that is not forced and whose enable is clear changes nothing. -/
def raise (k : AlarmKind) (d : BitVec 24) (s : State) : State :=
  if enableOf s.settings.alarms k then { s with alarms := { s.alarms with waiting := raiseInto k d s.alarms.waiting } }
  else s

/-! ## STATUS frames -/

/-- A STATUS frame is built with the values its sources hold and handed to both status slots; the status-due flag is
cleared and both STATUS timers restart (R175, R176). -/
def buildStatus (s : State) : State :=
  let f := buildFrame broadcastAddress kindStatus s.ownSeq (statusPayload s)
  let s := s.takeSeq kindStatus
  { s with
    portA := { s.portA with status := some f }
    portB := { s.portB with status := some f }
    alarms := { s.alarms with
      due := false, spacing := startTimer statusSpacing, periodic := startTimer statusPeriod } }

/-- A change report to the alarm unit: it builds a STATUS frame, or marks one due while the spacing timer runs
(R175). -/
def reportStatus (s : State) : State :=
  if s.alarms.spacing.isSome then { s with alarms := { s.alarms with due := true } } else buildStatus s

/-- STATUS_SPACING_EXPIRY (R175): the spacing timer's expiry builds a STATUS frame when the status-due flag is set. -/
def execStatusSpacingExpiry (s : State) : Host.Outcome State Fault Refusal :=
  whenPowered s fun s =>
    if isDue s.alarms.spacing then
      let due := s.alarms.due
      let s := { s with alarms := { s.alarms with spacing := none } }
      if due then buildStatus s else s
    else s

/-- STATUS_PERIODIC_EXPIRY (R175): the periodic timer's expiry builds a STATUS frame. -/
def execStatusPeriodicExpiry (s : State) : Host.Outcome State Fault Refusal :=
  whenPowered s fun s => if isDue s.alarms.periodic then buildStatus s else s

/-! ## Sending -/

/-- The ALARM frame of an entry: kind, detail and occurrence count, with the next own-frame sequence (R14, R20, R173). -/
def alarmFrame (s : State) (e : AlarmEntry) : Frame :=
  buildFrame broadcastAddress kindAlarm s.ownSeq
    (BitVec.ofNat 8 (alarmCode e.kind) :: bytesOf 3 e.detail.toNat ++ [BitVec.ofNat 8 e.count])

/-- Whether the alarm slots of both ports are empty and the send-time list admits a send (R173, R174). -/
def alarmSendAdmitted (s : State) : Bool :=
  s.portA.alarm.isNone && s.portB.alarm.isNone && s.alarms.sendTimes.length < sendListLimit

/-- ALARM_SEND (R173): when the pending set is not empty, both alarm slots are empty and the send-time list admits a send,
the head entry's frame is handed to both ports, the entry leaves the set and an entry of age 0 joins the list. The send
comes as this command, at any time after its conditions came to hold (log entry 31). -/
def execAlarmSend (s : State) : Host.Outcome State Fault Refusal :=
  whenPowered s fun s =>
    match s.alarms.waiting with
    | [] => s
    | e :: rest =>
      if alarmSendAdmitted s then
        let f := alarmFrame s e
        let s := s.takeSeq kindAlarm
        { s with
          portA := { s.portA with alarm := some f }
          portB := { s.portB with alarm := some f }
          alarms := { s.alarms with waiting := rest, sendTimes := s.alarms.sendTimes ++ [0] } }
      else s

/-- SEND_TIME_ENTRY_EXPIRY (R174): an entry whose age has reached 60 s leaves the send-time list. -/
def execSendTimeEntryExpiry (s : State) : Host.Outcome State Fault Refusal :=
  whenPowered s fun s =>
    { s with alarms := { s.alarms with sendTimes := s.alarms.sendTimes.filter (· < sendListAge) } }

end Sys2Proof.Machine
end

