-- ==== Sys2Proof/Machine/Drives.lean ====
section
/-! DEFINITION. The relay drives of the output monitor (R164, R165): what a change of an owner's command does. The
judging of contacts stands in Machine/Monitor.lean. -/

namespace Sys2Proof.Machine

/-- The RESET hold: a fault is latched on the BURNER or the RESET relay (R164). -/
def resetHold (s : State) : Bool := s.monitor.burner.fault || s.monitor.reset.fault

/-- The command a drive follows: its owner's, but open for RESET while the hold is in force (R164). -/
def followedCommand (s : State) (r : Relay) : Bool :=
  if r = .reset ∧ resetHold s then false else (s.relay r).command

/-- A relay put in CHECKING with its readback timer started (R165). -/
def startCheck (x : RelayState) : RelayState := { x with phase := .checking, timer := some readbackMs }

/-- The drive made to follow its command. A change puts the relay in CHECKING, but not while its fault is latched (R165,
R166). -/
def followDrive (r : Relay) (s : State) : State :=
  let x := s.relay r
  let d := followedCommand s r
  if d = x.drive then s
  else if x.fault then s.setRelay r { x with drive := d }
  else s.setRelay r (startCheck { x with drive := d })

/-- A relay's owner hands over its command (R164). -/
def setCommand (r : Relay) (c : Bool) (s : State) : State :=
  followDrive r (s.setRelay r { s.relay r with command := c })

end Sys2Proof.Machine
end

