-- ==== Sys2Proof/Machine/Pump.lean ====
section
/-! DEFINITION. The PUMP relay and the pump overrun of the zone unit (R65, R66). They stand before the burner sequencer,
whose state reports they follow. -/

namespace Sys2Proof.Machine

/-- Whether a zone has an accepted frost call, a call at level 7 (R53, R65). -/
def frostAccepted (s : State) : Bool := (places 12).any fun z => (s.zone z).accepted && (s.zone z).level == 7

/-- What the PUMP relay is commanded to be (R65): OUTPUT_FAULT holds it off whatever else asks for it. -/
def pumpWanted (s : State) : Bool :=
  s.burner.state != .outputFault
    && (s.burner.state == .starting || s.burner.state == .firing || s.zones.overrun.isSome || frostAccepted s)

/-- The PUMP command recomputed and handed to the output monitor (R65). -/
def recomputePump (s : State) : State := setCommand .pump (pumpWanted s) s

/-- What a change of burner state does to the overrun (R66): it starts when FIRING is left, except for OUTPUT_FAULT, and
stops at an entry into STARTING, FIRING or OUTPUT_FAULT. -/
def overrunAfter (overrun : Nat) (old new : BurnerState) (t : Timer) : Timer :=
  if new = .starting ∨ new = .firing ∨ new = .outputFault then none
  else if old = .firing then startUnlessZero overrun
  else t

/-- A burner state report taken by the zone unit for the overrun and the pump (R65, R66, R72). -/
def pumpTold (old new : BurnerState) (s : State) : State :=
  recomputePump
    { s with zones := { s.zones with overrun := overrunAfter s.settings.common.overrun old new s.zones.overrun } }

/-- PUMP_OVERRUN_EXPIRY (R66): the overrun ends and the PUMP command is recomputed. -/
def execPumpOverrunExpiry (s : State) : Host.Outcome State Fault Refusal :=
  whenPowered s fun s =>
    if isDue s.zones.overrun then recomputePump { s with zones := { s.zones with overrun := none } } else s

end Sys2Proof.Machine
end

