-- ==== Sys2Proof/Machine/Sampler.lean ====
section
/-! DEFINITION. The start sampler and the run counters (spec/08), as the other blocks reach them by their reports, and
what RELEASE_SAMPLE and a write of the sample interval do. -/

namespace Sys2Proof.Machine

def State.countRun (s : State) (f : RunCounters → RunCounters) : State :=
  { s with sampler := { s.sampler with counters := f s.sampler.counters } }

/-- The record begun at a tag (R156), after the start was added to the starts counter. -/
def newSample (s : State) (preheat : Bool) : SampleRecord :=
  { number := s.sampler.counters.starts, called := stampNow s, preheat := preheat, volume := s.tank.volume
    accepted := acceptedSet s }

/-- A start event (R155): the start is counted, and tagged when it brings the start count to the sample interval. -/
def sampleStart (preheat : Bool) (s : State) : State :=
  let s := s.countRun fun c => { c with starts := inc32 c.starts }
  if s.sampler.phase = .valid ∨ s.settings.sampleInterval = 0 then s
  else if s.sampler.count + 1 = s.settings.sampleInterval then
    { s with sampler := { s.sampler with count := 0, phase := .filling, record := some (newSample s preheat) } }
  else { s with sampler := { s.sampler with count := s.sampler.count + 1 } }

/-- A change of the record while it is being filled (R157). -/
def fillSample (f : SampleRecord → SampleRecord) (s : State) : State :=
  if s.sampler.phase = .filling then { s with sampler := { s.sampler with record := s.sampler.record.map f } } else s

/-- The ignition latency reported at an entry into FIRING (R157): the record keeps the first. -/
def sampleLatency (n : Nat) (s : State) : State :=
  fillSample (fun r => { r with latency := r.latency.or (some n) }) s

/-- A slow start (R85, R161). -/
def sampleSlow (s : State) : State := s.countRun fun c => { c with slowStarts := inc16 c.slowStarts }

/-- A firing second (R157, R161). -/
def sampleSecond (s : State) : State :=
  fillSample (fun r => { r with seconds := inc16 r.seconds })
    (s.countRun fun c => { c with firing := inc32 c.firing })

/-- A flame-out (R157, R161). -/
def sampleFlameOut (s : State) : State :=
  fillSample (fun r => { r with flameOuts := satInc 255 r.flameOuts })
    (s.countRun fun c => { c with flameOuts := inc16 c.flameOuts })

/-- A BOX_NO_RESPONSE event (R84, R161). -/
def sampleNoResponse (s : State) : State := s.countRun fun c => { c with noResponse := inc16 c.noResponse }

/-- A lockout episode opened (R103, R161). -/
def sampleLockout (s : State) : State := s.countRun fun c => { c with lockouts := inc16 c.lockouts }

/-- An automatic reset pulse (R107, R161). -/
def sampleAutoReset (s : State) : State := s.countRun fun c => { c with autoResets := inc16 c.autoResets }

/-- The end of a start (R158): while the phase is FILLING it completes the record, and SAMPLE_VALID is set and
reported, after the change of burner state that ended the start (log entry 40). -/
def sampleEnd (cause : EndCause) (s : State) : State :=
  if s.sampler.phase = .filling then
    let s := fillSample (fun r => { r with endCause := some cause }) s
    reportStatus { s with sampler := { s.sampler with phase := .valid } }
  else s

/-- RELEASE_SAMPLE (R159): a VALID sample becomes RELEASED, and the clearing of SAMPLE_VALID is reported. -/
def releaseSample (s : State) : State :=
  if s.sampler.phase = .valid then reportStatus { s with sampler := { s.sampler with phase := .released } } else s

/-- A write of the sample interval (R160): a value different from the one in force sets the start count to 0. -/
def setSampleInterval (n : Nat) (s : State) : State :=
  if n = s.settings.sampleInterval then s
  else { s with settings := { s.settings with sampleInterval := n }, sampler := { s.sampler with count := 0 } }

end Sys2Proof.Machine
end

