-- ==== Sys2Proof/Machine/Burner.lean ====
section
/-! DEFINITION. The burner sequencer (spec/04). -/

namespace Sys2Proof.Machine

/-! ## Reports and relays -/

/-- Firing begins, as recovery takes it (R72, R109): in OBSERVING the proving window starts. -/
def firingBegins (s : State) : State :=
  if s.recovery.state = .observing then
    { s with recovery := { s.recovery with window := startTimer provingWindowTime } }
  else s

/-- Firing ends, as recovery takes it (R72, R109): in OBSERVING the proving window is abandoned. -/
def firingEnds (s : State) : State :=
  if s.recovery.state = .observing then { s with recovery := { s.recovery with window := none } } else s

/-- The states in which the BURNER relay is commanded closed (R73). -/
def callsBox : BurnerState → Bool
  | .called | .starting | .firing => true
  | .standby | .delayed | .pacing | .preheat | .runOn | .lockedOut | .hardLocked | .outputFault => false

/-- The states in which a chosen preheat is on (R74). -/
def mayPreheat : BurnerState → Bool
  | .preheat | .called | .starting => true
  | .standby | .delayed | .pacing | .firing | .runOn | .lockedOut | .hardLocked | .outputFault => false

/-- Both relay commands of the sequencer handed over as its state and flag ask (R73, R74). -/
def commandRelays (s : State) : State :=
  setCommand .preheat (s.burner.preheatChosen && mayPreheat s.burner.state)
    (setCommand .burner (callsBox s.burner.state) s)

/-- What recovery is told of a change of burner state (R72). -/
def reportFiring (old new : BurnerState) (s : State) : State :=
  if new = .firing then firingBegins s else if old = .firing then firingEnds s else s

/-- A change of burner state, with the relays and the reports to recovery, to the zone unit's pump and to the alarm unit
(R72). The valve drives of OUTPUT_FAULT (R67) follow in `settle`. -/
def enterBurner (new : BurnerState) (s : State) : State :=
  let old := s.burner.state
  if new = old then s
  else
    reportStatus (pumpTold old new (reportFiring old new (commandRelays
      { s with burner := { s.burner with state := new } })))

/-- Every timer of the sequencer stopped (R91, R92, R93). -/
def stopBurnerTimers (b : Burner) : Burner :=
  { b with
    startDelay := none, pacing := none, preheat := none, response := none, proving := none, minimumRun := none
    flameOut := none, firingSecond := none }

/-- The end of a start in progress (R95): the preheat-chosen flag is cleared, the call clock stops counting, and the
cause goes to the start sampler. It is called after the entry that ends the start. DESIGN CHOICE: the alarm unit is told of
that change of burner state before the change of SAMPLE_VALID (R158), so that a STATUS built at the first of them shows
SAMPLE_VALID as it was; R72, R95, R158 and R175 give no order (log entry 40). -/
def endStart (cause : EndCause) (s : State) : State :=
  if s.burner.start.isSome then
    sampleEnd cause { s with burner := { s.burner with start := none, preheatChosen := false } }
  else s

/-! ## Deciding a start (section 4.3) -/

/-- Aged entries leave the start-time list (R77). -/
def trimStarts (s : State) : State :=
  { s with burner := { s.burner with startTimes := s.burner.startTimes.filter (· < startListAge) } }

/-- Whether the start-time list is full (R77). -/
def startsFull (s : State) : Bool := s.settings.burner.startsPerHour ≤ s.burner.startTimes.length

/-- PACING, with its timer running to the moment the oldest entry reaches 3,600 s (R79). -/
def toPacing (s : State) : State :=
  enterBurner .pacing
    { s with burner := { s.burner with pacing := startTimer (startListAge - s.burner.startTimes.headD 0) } }

/-- Whether a start that proceeds chooses preheat (R80). -/
def choosesPreheat (s : State) : Bool :=
  s.settings.burner.preheatTime > 0 && !s.monitor.preheat.fault
    && match s.tank.temperature with
      | none => true
      | some t => s.tank.tempAge > staleTemperatureAge || t ≤ s.settings.burner.preheatThreshold

/-- The RUN rise handling of CALLED (R83). -/
def boxAnswers (s : State) : State :=
  enterBurner .starting
    { s with burner :=
      { s.burner with response := none, proving := startTimer s.settings.burner.provingTime } }

/-- Entry into CALLED, the part of it that a re-call shares (R82): the relay closes, the call clock is 0, the response
timer starts, and a RUN that counts as risen is taken at once. -/
def callBox (s : State) : State :=
  let s := enterBurner .called
    { s with burner := { s.burner with callClock := 0, response := startTimer s.settings.burner.responseLimit } }
  if s.burner.run then boxAnswers s else s

/-- A start begins (R82). -/
def beginStart (s : State) : State :=
  callBox (sampleStart s.burner.preheatChosen
    { s with burner := { s.burner with startTimes := s.burner.startTimes ++ [0], start := some false } })

/-- A start that proceeds (R80). -/
def proceedStart (s : State) : State :=
  if choosesPreheat s then
    enterBurner .preheat
      { s with burner :=
        { s.burner with preheatChosen := true, preheat := startTimer s.settings.burner.preheatTime } }
  else beginStart s

/-- A start decision (R78). -/
def startDecision (s : State) : State :=
  let s := trimStarts s
  if !s.burner.demand then enterBurner .standby s
  else if startsFull s then toPacing s
  else proceedStart s

/-- The start decision of an entry into STANDBY (R78). -/
def decideIfCalled (s : State) : State := if s.burner.demand then startDecision s else s

/-- Entry into STANDBY where no start was in progress (R91, R92, R94, R96). -/
def toStandby (s : State) : State := decideIfCalled (enterBurner .standby s)

/-! ## Ending a call (section 4.4) -/

/-- How a start ends that leaves through RUN_ON (R95). -/
def runOnCause (s : State) : EndCause := if s.burner.start = some true then .normalEnd else .demandLost

/-- RUN_ON left for STANDBY (R88, R95): the entry, then the end of the start, as `endStart` says (log entry 40), then a start
decision if demand stands. -/
def leaveRunOn (s : State) : State := decideIfCalled (endStart (runOnCause s) (enterBurner .standby s))

/-- A call withdrawn: RUN_ON, and STANDBY at once when RUN counts as fallen (R88). -/
def withdrawCall (s : State) : State :=
  let s := enterBurner .runOn { s with burner := stopBurnerTimers s.burner }
  if s.burner.run then s else leaveRunOn s

/-- A rise of burner demand (R78). -/
def demandRises (s : State) : State :=
  let s := { s with burner := { s.burner with demand := true } }
  if s.burner.state = .standby then startDecision s else s

/-- A fall of burner demand (R79, R81, R83, R87, R89). -/
def demandFalls (s : State) : State :=
  let s := { s with burner := { s.burner with demand := false } }
  match s.burner.state with
  | .pacing => enterBurner .standby { s with burner := { s.burner with pacing := none } }
  | .preheat => enterBurner .standby { s with burner := { s.burner with preheat := none, preheatChosen := false } }
  | .called | .starting => withdrawCall s
  | .firing => if s.burner.minimumRun.isNone then withdrawCall s else s
  | .standby | .delayed | .runOn | .lockedOut | .hardLocked | .outputFault => s

/-! ## Holds, hard lockout and output faults (section 4.6) -/

/-- The state handed back at a hold (R91). -/
def handedPhase (s : State) : BurnerState := if s.burner.state = .outputFault then .standby else s.burner.state

/-- The call clock handed back at a hold (R91). -/
def handedClock (s : State) : Option Nat :=
  if s.burner.state = .called ∨ s.burner.state = .starting then some s.burner.callClock else none

/-- The burner taken out of whatever it does: timers stopped, relays open, a start in progress ended (R91 to R93), in the
order that `endStart` says (log entry 40). -/
def takeOut (new : BurnerState) (cause : EndCause) (s : State) : State :=
  endStart cause
    (enterBurner new { s with burner := { stopBurnerTimers s.burner with preheatChosen := false } })

/-- A hold from recovery (R91). -/
def holdBurner (s : State) : State :=
  if s.burner.state = .hardLocked ∨ s.burner.state = .outputFault then s else takeOut .lockedOut .lockout s

/-- A release from recovery (R91). -/
def releaseBurner (s : State) : State := if s.burner.state = .lockedOut then toStandby s else s

/-- The report that recovery has entered HARD (R92). -/
def hardBurner (s : State) : State :=
  if s.burner.state = .outputFault then s else takeOut .hardLocked .lockout s

/-- The report that recovery has left HARD (R92). -/
def unhardBurner (s : State) : State := if s.burner.state = .hardLocked then toStandby s else s

/-- The report of a fault latched on the BURNER or RESET relay (R93). -/
def faultBurner (s : State) : State := takeOut .outputFault .fault s

/-- The burner leaves OUTPUT_FAULT, once no BURNER or RESET fault remains latched (R94). -/
def leaveFault (s : State) : State :=
  if s.burner.state = .outputFault ∧ ¬ resetHold s then
    match s.recovery.state with
    | .idle | .observing => toStandby s
    | .cooling | .resetting | .suspended => enterBurner .lockedOut s
    | .hard => enterBurner .hardLocked s
  else s

/-! ## The commands that reach the burner sequencer alone -/

/-- START_DELAY_EXPIRY (R96). -/
def execStartDelayExpiry (s : State) : Host.Outcome State Fault Refusal :=
  whenPowered s fun s =>
    if s.burner.state = .delayed ∧ isDue s.burner.startDelay then
      toStandby { s with burner := { s.burner with startDelay := none } }
    else s

/-- PACING_EXPIRY (R79). -/
def execPacingExpiry (s : State) : Host.Outcome State Fault Refusal :=
  whenPowered s fun s =>
    if s.burner.state = .pacing ∧ isDue s.burner.pacing then
      startDecision { s with burner := { s.burner with pacing := none } }
    else s

/-- PREHEAT_EXPIRY (R81). -/
def execPreheatExpiry (s : State) : Host.Outcome State Fault Refusal :=
  whenPowered s fun s =>
    if s.burner.state = .preheat ∧ isDue s.burner.preheat then
      let s := trimStarts { s with burner := { s.burner with preheat := none } }
      if startsFull s then toPacing { s with burner := { s.burner with preheatChosen := false } } else beginStart s
    else s

/-- The detail of BOX_NO_RESPONSE: the response limit in force and the entries of the start-time list (R84, R172). The limit
in force is the working setting at the expiry, also when it was written while the response timer ran (log entry 32). -/
def noResponseDetail (s : State) : BitVec 24 :=
  detailBytes s.settings.burner.responseLimit s.burner.startTimes.length 0

/-- BOX_NO_RESPONSE (R84): the burner goes to STANDBY and the start ends, in the order that `endStart` says (log entry 40),
the event is counted and raised, and a demand that stands gives a start decision. -/
def execBoxNoResponse (s : State) : Host.Outcome State Fault Refusal :=
  whenPowered s fun s =>
    if s.burner.state = .called ∧ isDue s.burner.response then
      let s := endStart .noResponse (enterBurner .standby { s with burner := { s.burner with response := none } })
      let s := sampleNoResponse s
      decideIfCalled (raise .boxNoResponse (noResponseDetail s) s)
    else s

/-- The ignition latency taken, and reported with a slow start when it is one (R85). -/
def takeLatency (s : State) : State :=
  let n := s.burner.callClock
  let s := sampleLatency n { s with burner := { s.burner with latency := some n } }
  if n > s.settings.burner.slowLimit then sampleSlow s else s

/-- PROVING_EXPIRY (R85). -/
def execProvingExpiry (s : State) : Host.Outcome State Fault Refusal :=
  whenPowered s fun s =>
    if s.burner.state = .starting ∧ isDue s.burner.proving then
      let s := takeLatency s
      enterBurner .firing
        { s with burner :=
          { s.burner with
            proving := none, minimumRun := startUnlessZero s.settings.burner.minimumRun
            firingSecond := startTimer firingPeriod, start := s.burner.start.map fun _ => true } }
    else s

/-- MINIMUM_RUN_EXPIRY (R87). -/
def execMinimumRunExpiry (s : State) : Host.Outcome State Fault Refusal :=
  whenPowered s fun s =>
    if s.burner.state = .firing ∧ isDue s.burner.minimumRun then
      let s := { s with burner := { s.burner with minimumRun := none } }
      if s.burner.demand then s else withdrawCall s
    else s

/-- FLAME_OUT (R90): the expiry of the flame-out wait. -/
def execFlameOut (s : State) : Host.Outcome State Fault Refusal :=
  whenPowered s fun s =>
    if (s.burner.state = .starting ∨ s.burner.state = .firing) ∧ isDue s.burner.flameOut then
      let s := sampleFlameOut { s with burner := { s.burner with flameOut := none, minimumRun := none } }
      if s.burner.demand then callBox s else withdrawCall s
    else s

/-- RUN_RISE (R75, R83, R89). -/
def execRunRise (s : State) : Host.Outcome State Fault Refusal :=
  whenPowered s fun s =>
    if s.burner.run then s
    else
      let s := { s with burner := { s.burner with run := true } }
      match s.burner.state with
      | .called => boxAnswers s
      | .starting =>
        if s.burner.flameOut.isSome then
          { s with burner :=
            { s.burner with flameOut := none, proving := startTimer s.settings.burner.provingTime } }
        else s
      | .firing =>
        if s.burner.flameOut.isSome then
          firingBegins { s with burner :=
            { s.burner with flameOut := none, firingSecond := startTimer firingPeriod } }
        else s
      | .standby | .delayed | .pacing | .preheat | .runOn | .lockedOut | .hardLocked | .outputFault => s

/-- RUN_FALL (R75, R88, R89). -/
def execRunFall (s : State) : Host.Outcome State Fault Refusal :=
  whenPowered s fun s =>
    if s.burner.run then
      let s := { s with burner := { s.burner with run := false } }
      match s.burner.state with
      | .starting =>
        { s with burner := { s.burner with proving := none, flameOut := startTimer flameOutWait } }
      | .firing =>
        firingEnds { s with burner := { s.burner with firingSecond := none, flameOut := startTimer flameOutWait } }
      | .runOn => leaveRunOn s
      | .standby | .delayed | .pacing | .preheat | .called | .lockedOut | .hardLocked | .outputFault => s
    else s

end Sys2Proof.Machine
end

