-- ==== Sys2Proof/Config.lean ====
section
/-! DEFINITION. What the spec leaves open, as constants with no body: nothing in Lean can evaluate one or prove a value
of it. Each is applied to the model's own counter `State.free`, which advances at every use, so that no two uses need
agree. -/

namespace Sys2Proof.Config

/-- Which area is saved first when a save completes and BOTH pending flags are set: `true` for the settings area. R193
says only that the store starts a save of the area whose pending flag is set (log entry 5). -/
opaque settingsSavedFirst : Nat → Bool

/-- What field 14 (poll countdown) of STATION index 0 reads as: R189 defines the field and R23, which says how entry 0's
fields read, does not name it (log entry 6). -/
opaque entryZeroCountdown : Nat → Half

end Sys2Proof.Config
end

