-- ==== Sys2Proof/Machine/Saving.lean ====
section
/-! DEFINITION. The settings store (spec/11): what an area holds, its check value, and saving. Power-on and RELOAD, which
reach every block, stand in Machine/Power.lean. -/

namespace Sys2Proof.Machine

/-! ## The bytes of an area. The part alone lays them out and nothing shows them (R192): log entry 8. -/

def flagBytes (b : Bool) : List Byte := [BitVec.ofNat 8 (flagCode b)]

def byteOf (n : Nat) : List Byte := [BitVec.ofNat 8 n]

def bytes4 (n : Nat) : List Byte := bytesOf 4 n

def optionBytes {α : Type} (f : α → List Byte) : Option α → List Byte
  | none => [0]
  | some x => 1 :: f x

def listBytes {α : Type} (f : α → List Byte) (l : List α) : List Byte := byteOf l.length ++ l.flatMap f

def stationBytes (c : StationConfig) : List Byte :=
  byteOf (classCode c.cls) ++ flagBytes c.pinned ++ byteOf (segmentCode c.segment) ++ bytes2 c.silence
    ++ flagBytes c.watched ++ flagBytes c.poll

def ruleBytes (r : ForwardRule) : List Byte :=
  flagBytes r.enable ++ byteOf r.sourceValue.toNat ++ byteOf r.sourceMask.toNat ++ byteOf r.destValue.toNat
    ++ byteOf r.destMask.toNat ++ bytes2 r.kinds.toNat ++ byteOf (ingressCode r.ingress) ++ byteOf (actionCode r.action)

def zoneBytes (z : ZoneSettings) : List Byte :=
  byteOf (zoneTypeCode z.type) ++ flagBytes z.enable ++ listBytes (fun a => byteOf a.val) z.binding
    ++ byteOf z.baseLevel ++ bytes2 z.frostFloor ++ optionBytes (fun o => byteOf o.val) z.output ++ bytes2 z.holdTime
    ++ byteOf z.duty ++ bytes2 z.boostPeriod ++ bytes2 z.limit

def commonBytes (c : CommonSettings) : List Byte :=
  byteOf c.lowFloor ++ byteOf c.unknownFloor ++ bytes2 c.travelTime ++ bytes2 c.overrun ++ byteOf c.mgmtFloor

def strapBytes (p : StrapPoint) : List Byte := bytes2 p.height ++ bytes2 p.volume

def tankBytes (t : TankSettings) : List Byte :=
  bytes2 t.height ++ byteOf t.pointCount ++ bytes2 t.jumpLimit ++ bytes4 t.staleLimit ++ bytes2 t.reserve
    ++ bytes2 t.cutout ++ t.strap.toList.flatMap strapBytes

def accountBytes (a : AccountSettings) : List Byte :=
  bytes2 a.nozzleRate ++ bytes2 a.deliveryThreshold ++ bytes2 a.leakThreshold

def burnerBytes (b : BurnerSettings) : List Byte :=
  byteOf b.startsPerHour ++ bytes2 (signed16 b.preheatThreshold) ++ bytes2 b.preheatTime ++ byteOf b.responseLimit
    ++ byteOf b.provingTime ++ byteOf b.slowLimit ++ bytes2 b.minimumRun

def recoveryBytes (r : RecoverySettings) : List Byte :=
  byteOf r.attempts ++ byteOf r.windowBudget ++ bytes2 r.coolDown

def enableBytes (e : AlarmEnables) : List Byte :=
  [e.frostCall, e.stationSilent, e.stationAbsent, e.segmentConflict, e.undelivered, e.valveStuck, e.boxNoResponse,
   e.lockout, e.recovered, e.tankLow, e.tankUnknown, e.delivery, e.senderImplausible].flatMap flagBytes

/-- The contents of the settings area as bytes. -/
def settingsBytes (i : SettingsImage) : List Byte :=
  i.stations.toList.flatMap stationBytes ++ bytes2 i.settings.pollPeriod ++ i.settings.rules.toList.flatMap ruleBytes
    ++ i.settings.zones.toList.flatMap zoneBytes ++ commonBytes i.settings.common ++ tankBytes i.settings.tank
    ++ accountBytes i.settings.accounts ++ burnerBytes i.settings.burner ++ byteOf i.settings.sampleInterval
    ++ recoveryBytes i.settings.recovery ++ enableBytes i.settings.alarms

def stampBytes (s : Stamp) : List Byte := optionBytes (fun p => bytes2 p.1 ++ bytes4 p.2) s

def deliveryBytes (d : Delivery) : List Byte := stampBytes d.stamp ++ bytes2 d.added ++ bytes2 d.volume

def recordBytes (r : LockoutRecord) : List Byte :=
  bytes2 r.number ++ stampBytes r.opened ++ byteOf (burnerCode r.phase) ++ optionBytes byteOf r.sinceCall
    ++ byteOf (tankCode r.tank) ++ optionBytes bytes2 r.volume ++ flagBytes r.leak ++ byteOf (causeCode r.cause)
    ++ flagBytes r.fuelUnknown ++ byteOf r.attempts ++ byteOf r.failed ++ flagBytes r.hand
    ++ byteOf (outcomeCode r.outcome)

/-- The contents of the running area as bytes. -/
def runningBytes (i : RunningImage) : List Byte :=
  optionBytes bytes2 i.reference ++ bytes4 i.burned ++ bytes2 i.residue ++ flagBytes i.leak
    ++ optionBytes deliveryBytes i.lastDelivery ++ listBytes bytes2 i.ring ++ listBytes recordBytes i.records
    ++ listBytes bytes4 i.resetTimes ++ flagBytes i.hardLatch ++ bytes4 i.starts ++ bytes4 i.firing ++ bytes2 i.lockouts
    ++ bytes2 i.autoResets

/-! ## Areas -/

/-- Whether an area passes its check (R192). -/
def passes {α : Type} (f : α → List Byte) (a : Area α) : Bool := crc16 (f a.contents) == a.check

/-- An area as a completed save leaves it (R194). -/
def sealArea {α : Type} (f : α → List Byte) (x : α) : Area α := ⟨x, crc16 (f x)⟩

/-- An area that a power cut found being written: its check value is not that of its contents (R194). -/
def damageArea {α : Type} (f : α → List Byte) (a : Area α) : Area α := ⟨a.contents, crc16 (f a.contents) ^^^ 1⟩

/-- What the settings area keeps of a station entry: a LEARNED entry is stored as EMPTY with its silence limit (R41). -/
def storedStation (e : Station) : StationConfig :=
  if e.configured then
    { cls := e.cls, pinned := e.pinned, segment := if e.pinned then e.segment else none, silence := e.silence
      watched := e.watched, poll := e.poll }
  else { silence := e.silence }

/-- The working contents of the settings area (R192). -/
def settingsImage (s : State) : SettingsImage :=
  { stations := mapAll (fun _ e => storedStation e) s.table.entries, settings := s.settings }

/-- The working contents of the running area (R192). -/
def runningImage (s : State) : RunningImage :=
  { reference := s.accounts.reference, burned := s.accounts.burned, residue := s.accounts.residue
    leak := s.accounts.leak, lastDelivery := s.accounts.lastDelivery, ring := s.accounts.ring
    records := s.recovery.records, resetTimes := s.recovery.resetTimes, hardLatch := s.recovery.hardLatch
    starts := s.sampler.counters.starts, firing := s.sampler.counters.firing
    lockouts := s.sampler.counters.lockouts, autoResets := s.sampler.counters.autoResets }

/-! ## Saving (R193) -/

/-- Whether a save runs. -/
def storeBusy (s : State) : Bool := s.store.activity != .idle

/-- A save of the settings area starts, with the working contents as they stand; its pending flag is cleared. -/
def startSettingsSave (s : State) : State :=
  { s with store := { s.store with activity := .savingSettings (settingsImage s), settingsPending := false } }

/-- A save of the running area starts, likewise. -/
def startRunningSave (s : State) : State :=
  { s with store := { s.store with activity := .savingRunning (runningImage s), runningPending := false } }

/-- A request to save the settings area: it starts at once, or is made pending while a save runs (R193). -/
def requestSettingsSave (s : State) : State :=
  if storeBusy s then { s with store := { s.store with settingsPending := true } } else startSettingsSave s

/-- A request to save the running area (R193). -/
def requestRunningSave (s : State) : State :=
  if storeBusy s then { s with store := { s.store with runningPending := true } } else startRunningSave s

/-- A completed save leaves its area passing its check, and the store idle (R193, R194). -/
def finishSave (s : State) : State :=
  match s.store.activity with
  | .idle => s
  | .savingSettings i =>
    { s with store := { s.store with activity := .idle, settings := sealArea settingsBytes i } }
  | .savingRunning i =>
    { s with store := { s.store with activity := .idle, running := sealArea runningBytes i } }

/-- The pending save, if any, starts (R193). With both flags set the spec does not say which goes first: a free value
decides (log entry 5). -/
def startPending (s : State) : State :=
  match s.store.settingsPending, s.store.runningPending with
  | false, false => s
  | true, false => startSettingsSave s
  | false, true => startRunningSave s
  | true, true =>
    let t := { s with free := s.free + 1 }
    if Config.settingsSavedFirst s.free then startSettingsSave t else startRunningSave t

/-- SAVE_COMPLETE (R193). -/
def execSaveComplete (s : State) : Host.Outcome State Fault Refusal :=
  whenPowered s fun s => if storeBusy s then startPending (finishSave s) else s

end Sys2Proof.Machine
end

