-- ==== Sys2Proof/Machine/Recovery.lean ====
section
/-! DEFINITION. The lockout recovery unit (spec/05). -/

namespace Sys2Proof.Machine

/-! ## The open record (R104, R105) -/

/-- The newest record, which is the open one while an episode is open (R105). -/
def newestRecord (s : State) : Option LockoutRecord := s.recovery.records.getLast?

/-- The last member of a list changed. -/
def changeLast {α : Type} (f : α → α) : List α → List α
  | [] => []
  | [x] => [f x]
  | x :: y :: l => x :: changeLast f (y :: l)

/-- The newest record changed. -/
def changeRecord (f : LockoutRecord → LockoutRecord) (s : State) : State :=
  { s with recovery := { s.recovery with records := changeLast f s.recovery.records } }

/-- The open record closed with an outcome (R105). -/
def closeRecord (o : RecordOutcome) (s : State) : State := changeRecord (fun r => { r with outcome := o }) s

/-- The number of the newest record. -/
def recordNumber (s : State) : Nat := ((newestRecord s).map (·.number)).getD 0

/-- The number a new record is given (R105). -/
def nextNumber (s : State) : Nat :=
  match newestRecord s with
  | none => 0
  | some r => (r.number + 1) % 65536

/-- The cause of a record, from its own fields at the opening (R104). -/
def causeOf (phase : BurnerState) (tank : TankState) (leak : Bool) : LockoutCause :=
  if tank = .low ∨ tank = .empty ∨ leak then .fuel
  else if phase = .called ∨ phase = .starting then .ignition
  else if phase = .firing then .flameLoss
  else .idleLockout

/-- The record opened with what the sequencer handed back (R104). -/
def newRecord (s : State) (phase : BurnerState) (clock : Option Nat) : LockoutRecord :=
  { number := nextNumber s, opened := stampNow s, phase := phase, sinceCall := clock, tank := s.tank.state
    volume := if s.tank.state = .unknown then none else s.tank.volume
    leak := s.accounts.leak, cause := causeOf phase s.tank.state s.accounts.leak
    fuelUnknown := s.tank.state == .unknown }

/-- A record joins at the tail; the oldest of 8 leaves first (R105). -/
def joinRecord (r : LockoutRecord) (l : List LockoutRecord) : List LockoutRecord := lastOf (recordLimit - 1) l ++ [r]

/-- The detail of LOCKOUT: record number and cause (R172). -/
def lockoutDetail (s : State) : BitVec 24 :=
  detailHalfByte (recordNumber s) (((newestRecord s).map fun r => causeCode r.cause).getD 0)

/-! ## States, tests and HARD -/

/-- A change of recovery state, reported to the alarm unit (R98). -/
def enterRecovery (new : RecoveryState) (s : State) : State :=
  if new = s.recovery.state then s else reportStatus { s with recovery := { s.recovery with state := new } }

/-- Every recovery timer stopped, the pulse's own included (R113). -/
def stopRecoveryTimers (r : Recovery) : Recovery :=
  { r with coolDown := none, release := none, observe := none, window := none, service := none, pulse := none }

/-- The attempts used on the open record. -/
def attemptsUsed (s : State) : Nat := ((newestRecord s).map (·.attempts)).getD 0

/-- The budget test (R102): `none` while another automatic pulse may be given, else the reason it may not. -/
def budgetReason (s : State) : Option HardReason :=
  if s.settings.recovery.attempts ≤ attemptsUsed s then some .attempts
  else if s.settings.recovery.windowBudget ≤ s.recovery.resetTimes.length then some .window
  else if resetHold s then some .relay
  else none

/-- Recovery enters HARD (R113). DESIGN CHOICE: the alarm unit is told of HARD before the burner moves to HARD_LOCKED; R113
and R98 give no order (log entry 40). -/
def enterHard (reason : HardReason) (s : State) : State :=
  let s := enterRecovery .hard { s with recovery := { stopRecoveryTimers s.recovery with hardLatch := true } }
  let s := hardBurner (setCommand .reset false s)
  requestRunningSave (raise .hardLockout (detailHalfByte (recordNumber s) (hardReasonCode reason)) s)

/-- COOLING, with a full cool-down (R103, R108, R110, R112). -/
def toCooling (s : State) : State :=
  enterRecovery .cooling { s with recovery := { s.recovery with coolDown := startTimer s.settings.recovery.coolDown } }

/-- The budget test, with HARD when the budget is exhausted and `pass` when it is not (R102). -/
def budgetThen (pass : State → State) (s : State) : State :=
  match budgetReason s with
  | some r => enterHard r s
  | none => pass s

/-- The suspend test, then the budget test (R102). -/
def testsThen (pass : State → State) (s : State) : State :=
  if s.recovery.suspend then enterRecovery .suspended s else budgetThen pass s

/-- A LOCKOUT rise in IDLE opens an episode (R103). -/
def openEpisode (s : State) : State :=
  let phase := handedPhase s
  let clock := handedClock s
  let s := holdBurner { s with recovery := { s.recovery with service := none } }
  let s := { s with recovery :=
    { s.recovery with records := joinRecord (newRecord s phase clock) s.recovery.records } }
  let s := sampleLockout s
  testsThen toCooling (raise .lockout (lockoutDetail s) s)

/-- A LOCKOUT rise in OBSERVING continues the open record (R110), its points taken in their order (log entry 40). -/
def continueEpisode (s : State) : State :=
  let s := holdBurner { s with recovery := { s.recovery with observe := none, window := none } }
  testsThen toCooling (raise .lockout (lockoutDetail s) s)

/-- OBSERVING, with its observe limit, and the release of the burner (R108, R109, R111). DESIGN CHOICE: the alarm unit is told
of OBSERVING before the burner is released (log entry 40). -/
def toObserving (s : State) : State :=
  releaseBurner (enterRecovery .observing
    { s with recovery :=
      { s.recovery with coolDown := none, release := none, observe := startTimer observeLimitTime } })

/-- The hand-release flag of the open record set (R111). -/
def markHand (s : State) : State := changeRecord (fun r => { r with hand := true }) s

/-- A pulse of the RESET relay, which ends by RESET_PULSE_END (R107, R115). -/
def startPulse (s : State) : State :=
  setCommand .reset true { s with recovery := { s.recovery with pulse := startTimer pulseTime } }

/-- An automatic reset pulse (R107). -/
def automaticPulse (s : State) : State :=
  let s := changeRecord (fun r => { r with attempts := r.attempts + 1 }) (startPulse s)
  let s := sampleAutoReset { s with recovery := { s.recovery with resetTimes := s.recovery.resetTimes ++ [0] } }
  enterRecovery .resetting { s with recovery := { s.recovery with release := startTimer releaseWaitTime } }

/-! ## Reports from other blocks -/

/-- Whether the suspend condition holds (R100). -/
def suspendHolds (s : State) : Bool := s.tank.state == .empty || s.accounts.leak

/-- A report of the tank state or of the leak latch (R100): the standing value follows, its arising acts in COOLING (R106)
and its clearing in SUSPENDED (R112). -/
def suspendTold (s : State) : State :=
  let new := suspendHolds s
  let old := s.recovery.suspend
  let s := { s with recovery := { s.recovery with suspend := new } }
  if new && !old && s.recovery.state == .cooling then
    enterRecovery .suspended { s with recovery := { s.recovery with coolDown := none } }
  else if !new && old && s.recovery.state == .suspended then budgetThen toCooling s
  else s

/-- A running pulse cut short (R116). -/
def cutPulse (s : State) : State :=
  if s.recovery.pulse.isSome then setCommand .reset false { s with recovery := { s.recovery with pulse := none } } else s

/-- Whether a record is open in this state and no HARD stands: the states a RESET fault takes to HARD (R116). -/
def resetFaultActs : RecoveryState → Bool
  | .cooling | .resetting | .observing | .suspended => true
  | .idle | .hard => false

/-- The report of a fault latched on the RESET or the BURNER relay (R116). -/
def recoveryFault (r : Relay) (s : State) : State :=
  let s := cutPulse s
  if r = .reset ∧ resetFaultActs s.recovery.state then enterHard .relay s else s

/-! ## CLEAR_HARD (R114, R115) -/

/-- The service pulse when the sense is risen and no BURNER or RESET fault is latched, and the service wait (R115). -/
def serviceReset (s : State) : State :=
  let s := if s.recovery.lockout && !resetHold s then startPulse s else s
  { s with recovery := { s.recovery with service := startTimer serviceWaitTime } }

/-- CLEAR_HARD as carried out in HARD (R114). -/
def clearHard (s : State) : State :=
  let s := closeRecord .cleared s
  let s := enterRecovery .idle { s with recovery := { s.recovery with resetTimes := [], hardLatch := false } }
  serviceReset (requestRunningSave (unhardBurner s))

/-! ## The commands that reach the recovery unit -/

/-- LOCKOUT_RISE (R97, R103, R110). -/
def execLockoutRise (s : State) : Host.Outcome State Fault Refusal :=
  whenPowered s fun s =>
    if s.recovery.lockout then s
    else
      let s := { s with recovery := { s.recovery with lockout := true } }
      match s.recovery.state with
      | .idle => openEpisode s
      | .observing => continueEpisode s
      | .cooling | .resetting | .suspended | .hard => s

/-- LOCKOUT_FALL (R97, R108, R111). -/
def execLockoutFall (s : State) : Host.Outcome State Fault Refusal :=
  whenPowered s fun s =>
    if s.recovery.lockout then
      let s := { s with recovery := { s.recovery with lockout := false } }
      match s.recovery.state with
      | .resetting => toObserving s
      | .cooling | .suspended => toObserving (markHand s)
      | .hard => markHand s
      | .idle | .observing => s
    else s

/-- COOL_DOWN_EXPIRY (R106). -/
def execCoolDownExpiry (s : State) : Host.Outcome State Fault Refusal :=
  whenPowered s fun s =>
    if s.recovery.state = .cooling ∧ isDue s.recovery.coolDown then
      testsThen automaticPulse { s with recovery := { s.recovery with coolDown := none } }
    else s

/-- RESET_PULSE_END (R107): the pulse has run and the RESET relay is commanded open. -/
def execResetPulseEnd (s : State) : Host.Outcome State Fault Refusal :=
  whenPowered s fun s => if isDue s.recovery.pulse then cutPulse s else s

/-- RELEASE_WAIT_EXPIRY (R108): the box did not release. -/
def execReleaseWaitExpiry (s : State) : Host.Outcome State Fault Refusal :=
  whenPowered s fun s =>
    if s.recovery.state = .resetting ∧ isDue s.recovery.release then
      testsThen toCooling (changeRecord (fun r => { r with failed := r.failed + 1 })
        { s with recovery := { s.recovery with release := none } })
    else s

/-- PROVING_WINDOW_EXPIRY (R109): the record closes RECOVERED. -/
def execProvingWindowExpiry (s : State) : Host.Outcome State Fault Refusal :=
  whenPowered s fun s =>
    if s.recovery.state = .observing ∧ isDue s.recovery.window then
      let s := closeRecord .recovered { s with recovery := { s.recovery with observe := none, window := none } }
      enterRecovery .idle (raise .recovered (detailHalfByte (recordNumber s) (attemptsUsed s)) s)
    else s

/-- OBSERVE_LIMIT_EXPIRY (R109): the record closes UNTESTED. -/
def execObserveLimitExpiry (s : State) : Host.Outcome State Fault Refusal :=
  whenPowered s fun s =>
    if s.recovery.state = .observing ∧ isDue s.recovery.observe then
      enterRecovery .idle
        (closeRecord .untested { s with recovery := { s.recovery with observe := none, window := none } })
    else s

/-- SERVICE_WAIT_EXPIRY (R115): a LOCKOUT sense that is still risen counts as a rise in IDLE. -/
def execServiceWaitExpiry (s : State) : Host.Outcome State Fault Refusal :=
  whenPowered s fun s =>
    if s.recovery.state = .idle ∧ isDue s.recovery.service then
      let s := { s with recovery := { s.recovery with service := none } }
      if s.recovery.lockout then openEpisode s else s
    else s

/-- RESET_TIME_ENTRY_EXPIRY (R101): an entry whose age has reached 86,400 s leaves the reset-time list. -/
def execResetTimeEntryExpiry (s : State) : Host.Outcome State Fault Refusal :=
  whenPowered s fun s =>
    { s with recovery :=
      { s.recovery with resetTimes := s.recovery.resetTimes.filter (· < resetListAge) } }

end Sys2Proof.Machine
end

