-- ==== Sys2Proof/Machine/Accounts.lean ====
section
/-! DEFINITION. The fuel accounts (spec/07). -/

namespace Sys2Proof.Machine

/-! ## Burn integration (R138) -/

/-- The units of the burn residue that make one millilitre (R138). -/
def residueUnit : Nat := 3600

/-- The firing second's nozzle rate added to the accounts (R138): every whole 3,600 leaves the residue and counts one
millilitre; the burned count and the tally stop at their 32-bit limit. -/
def integrateRate (rate : Nat) (a : Accounts) : Accounts :=
  let total := a.residue + rate
  let gained := total / residueUnit
  { a with
    residue := total % residueUnit, burned := min (a.burned + gained) max32, tally := min (a.tally + gained) max32 }

/-- FIRING_SECOND (R86): one firing second to the fuel accounts (R138) and to the start sampler (R157, R161), and the
period starts again. -/
def execFiringSecond (s : State) : Host.Outcome State Fault Refusal :=
  whenPowered s fun s =>
    if s.burner.state = .firing ∧ isDue s.burner.firingSecond then
      sampleSecond
        { s with
          burner := { s.burner with firingSecond := startTimer firingPeriod }
          accounts := integrateRate s.settings.accounts.nozzleRate s.accounts }
    else s

/-! ## Book, rebase and reconciliation (sections 7.3 to 7.5) -/

/-- The book volume, `none` while the book is UNSET (R140). -/
def bookVolume (a : Accounts) : Option Nat := a.reference.map (· - a.burned / 1000)

/-- A rebase on a measured volume (R141). -/
def rebase (m : Nat) (a : Accounts) : Accounts :=
  { a with reference := some m, burned := 0, residue := 0, strikes := 0 }

/-- A delivery recognised (R144). -/
def takeDelivery (m book : Nat) (s : State) : State :=
  let s := { s with accounts :=
    { s.accounts with lastDelivery := some { stamp := stampNow s, added := m - book, volume := m } } }
  let s := raise .delivery (detailHalfByte m (min 255 ((m - book) / 10))) s
  { s with accounts := rebase m s.accounts }

/-- A leak strike (R145). The second one sets the latch, raises LEAK_SUSPECT and is reported to recovery. -/
def leakStrike (m book : Nat) (s : State) : State :=
  let a := s.accounts
  if a.strikes = 0 then { s with accounts := { a with strikes := 1 } }
  else if a.strikes = 1 then
    let t := { s with accounts := { a with strikes := 2, leak := true } }
    if a.leak then t else suspendTold (raise .leakSuspect (detailHalfByte m (min 255 (book - m))) t)
  else s

/-- The judgement of a known volume against the book (R143). -/
def judgeVolume (m : Nat) (s : State) : State :=
  match bookVolume s.accounts with
  | none => { s with accounts := rebase m s.accounts }
  | some book =>
    if book + s.settings.accounts.deliveryThreshold ≤ m then takeDelivery m book s
    else if m + s.settings.accounts.leakThreshold ≤ book then leakStrike m book s
    else { s with accounts := { s.accounts with strikes := 0 } }

/-- A reconciliation: the spacing timer starts or restarts, whatever the outcome (R142, R143). -/
def reconcile (m : Nat) (s : State) : State :=
  judgeVolume m { s with accounts := { s.accounts with spacing := startTimer spacingTime } }

/-- A volume change as the accounts take it (R142): a known volume is reconciled while the book is UNSET or the spacing
timer does not run; UNKNOWN never is. -/
def accountsTold (volume : Option Nat) (s : State) : State :=
  match volume with
  | none => s
  | some m => if s.accounts.reference.isNone ∨ s.accounts.spacing.isNone then reconcile m s else s

/-- The accounts after an ACK_LEAK (R146), the report to recovery apart. -/
def acknowledged (volume : Option Nat) (a : Accounts) : Accounts :=
  let a := { a with leak := false, spacing := startTimer spacingTime }
  match volume with
  | some m => rebase m a
  | none => { a with strikes := 0, burned := 0, residue := 0, reference := none }

/-- ACK_LEAK as the fuel accounts carry it out (R146). -/
def acknowledgeLeak (s : State) : State :=
  let t := { s with accounts := acknowledged s.tank.volume s.accounts }
  if s.accounts.leak then suspendTold t else t

/-- SPACING_TIMER_EXPIRY (R142): it makes no reconciliation by itself. -/
def execSpacingTimerExpiry (s : State) : Host.Outcome State Fault Refusal :=
  whenPowered s fun s =>
    if isDue s.accounts.spacing then { s with accounts := { s.accounts with spacing := none } } else s

/-! ## The day (sections 7.7 and 7.8) -/

/-- The days the ring holds (R149). -/
def ringLimit : Nat := 7

/-- The close of a day (R148, R149). -/
def closeDay (a : Accounts) : Accounts :=
  { a with ring := lastOf ringLimit (a.ring ++ [min (a.tally / 1000) max16]), tally := a.tally % 1000 }

/-- MIDNIGHT (R148): a midnight that the time base counted closes the day unless TIME_UNSET is set, and requests a save of
the running area (log entry 4). -/
def execMidnight (s : State) : Host.Outcome State Fault Refusal :=
  whenPowered s fun s =>
    if s.time.midnight then
      let s := { s with time := { s.time with midnight := false } }
      requestRunningSave (if s.time.unset then s else { s with accounts := closeDay s.accounts })
    else s

/-- The sum of the ring (R150). -/
def ringSum (a : Accounts) : Nat := a.ring.sum

/-- Days remaining, `none` when unknown (R150). -/
def daysRemaining (s : State) : Option Nat :=
  s.tank.volume.map fun m =>
    if ringSum s.accounts = 0 then 999
    else min 999 ((m - s.settings.tank.cutout) * s.accounts.ring.length / ringSum s.accounts)

end Sys2Proof.Machine
end

