-- ==== Sys2Proof/Machine/Zones.lean ====
section
/-! DEFINITION. The zone unit (spec/03): re-evaluation, the effective floor, cylinder priority, deferral, the valves and
burner demand. -/

namespace Sys2Proof.Machine

/-! ## Units (R44, R45) -/

/-- A unit of a zone that is active: its class is ROOM_UNIT (R44). -/
def isActive (s : State) (a : Addr) : Bool := (s.station a).cls == .roomUnit

/-- A unit of a zone that is present (R44). -/
def isPresent (s : State) (a : Addr) : Bool := isActive s a && (s.station a).presence == .present

/-- The present units of a zone. -/
def presentUnits (s : State) (z : ZoneId) : List Addr := (s.zoneCfg z).binding.filter (isPresent s)

/-- A unit's last call; an absent record counts as satisfied (R45). -/
def lastCall (s : State) (a : Addr) : Bool := ((s.unitRecord a).map (·.call)).getD false

/-- The fresh temperatures of a zone (R52). -/
def freshTemperatures (s : State) (z : ZoneId) : List Int :=
  (presentUnits s z).filterMap fun a => (s.unitRecord a).bind (·.temperature)

/-- Whether a frame makes a boost edge, against the source's record before it is filled (R50). -/
def boostEdge (before : Option UnitRecord) (now : UnitRecord) : Bool :=
  now.boostSeen && match before with
    | none => true
    | some r => !r.boostSeen

/-! ## Re-evaluation (section 3.3) -/

/-- What causes a re-evaluation (R46): a DEMAND frame, with whether it makes a boost edge, or anything else. -/
inductive ReevalCause where
  | demandFrame (edge : Bool)
  | other
  deriving DecidableEq, Repr

/-- The first step: the demand state, the held call and the hold timer (R47, R48). `present` and `call` tell whether the
zone has a present unit and whether one of them calls. -/
def decideDemand (present call : Bool) (holdTime : Nat) (r : Zone) : Zone :=
  if present then { r with hadPresent := true, hold := none, demand := if call then .calling else .idle }
  else
    let r := if r.hadPresent then
        { r with hadPresent := false, heldCall := r.demand == .calling, hold := startUnlessZero holdTime }
      else r
    { r with demand := if r.hold.isNone then .fallback else if r.heldCall then .held else .idle }

/-- The second step: the frost flag, from the fresh temperatures (R52). -/
def decideFrost (fresh : List Int) (frostFloor : Nat) (r : Zone) : Bool :=
  if r.demand = .fallback then false
  else if fresh.any (· < (frostFloor : Int)) then true
  else if fresh != [] && fresh.all (fun t => (frostFloor : Int) + 10 ≤ t) then false
  else r.frost

/-- The third step: the boost (R50, R51). -/
def decideBoost (cause : ReevalCause) (present call : Bool) (type : ZoneType) (period : Nat) (r : Zone) : Timer :=
  if r.demand = .fallback then none
  else
    match cause with
    | .other => r.boost
    | .demandFrame edge =>
      if edge && type != .outbuilding && (r.demand == .calling || r.demand == .idle) then startTimer period
      else if present && !call then none
      else r.boost

/-- Whether a time of day lies in the duty minutes of its hour (R49). -/
def insideDuty (timeOfDay duty : Nat) : Bool := timeOfDay % hourSeconds < 60 * duty

/-- The fourth step: the current level (R53). -/
def decideLevel (c : ZoneSettings) (timeOfDay : Nat) (r : Zone) : Nat :=
  if r.frost then 7
  else if c.type = .outbuilding then 0
  else
    match r.demand with
    | .calling | .held => if r.boost.isSome then min (c.baseLevel + 1) 6 else c.baseLevel
    | .fallback => if insideDuty timeOfDay c.duty then c.baseLevel else 0
    | .idle => 0

/-- The fifth step: acceptance (R56). -/
def decideAccepted (floor level : Nat) : Bool := level == 7 || (level != 0 && floor < level)

/-- A zone's record after re-evaluation, with its four earlier steps and its acceptance in the order of R46. -/
def reevaluated (cause : ReevalCause) (z : ZoneId) (s : State) : Zone :=
  let c := s.zoneCfg z
  let units := presentUnits s z
  let present := units != []
  let call := units.any (lastCall s)
  let r := decideDemand present call c.holdTime (s.zone z)
  let r := { r with frost := decideFrost (freshTemperatures s z) c.frostFloor r }
  let r := { r with boost := decideBoost cause present call c.type c.boostPeriod r }
  let r := { r with level := decideLevel c s.time.timeOfDay r }
  { r with accepted := decideAccepted s.zones.floor r.level }

/-- The detail of FROST_CALL: the zone and its lowest fresh temperature (R52, R172). -/
def frostDetail (s : State) (z : ZoneId) : BitVec 24 :=
  let fresh := freshTemperatures s z
  detailByteHalf z.val (BitVec.ofInt 16 (fresh.foldl min (fresh.headD 0)))

/-- A zone re-evaluated (R46). A disabled zone is not. -/
def reevalZone (cause : ReevalCause) (z : ZoneId) (s : State) : State :=
  if (s.zoneCfg z).enable then
    let r := reevaluated cause z s
    let t := s.setZone z r
    if r.frost && !(s.zone z).frost then raise .frostCall (frostDetail s z) t else t
  else s

/-! ## Priority and deferral (section 3.6) -/

/-- A non-frost call: a level from 1 to 6 (R53). -/
def nonFrost (r : Zone) : Bool := 1 ≤ r.level && r.level ≤ 6

/-- Whether a zone has a priority call (R57). -/
def hasPriorityCall (c : ZoneSettings) (r : Zone) : Bool :=
  c.type == .cylinder && 0 < c.limit && c.enable && r.accepted && nonFrost r

/-- The priority timer and the priority-spent flag recomputed (R57). -/
def decidePriority (c : ZoneSettings) (r : Zone) : Zone :=
  if hasPriorityCall c r then
    if r.priorityCall then r
    else { r with priorityCall := true, priority := if r.spent then r.priority else startTimer c.limit }
  else { r with priorityCall := false, priority := none, spent := false }

/-- A priority call of a zone ended by a write (R57): what still stands begins afresh. -/
def endPriority (z : ZoneId) (s : State) : State :=
  s.setZone z { s.zone z with priorityCall := false, priority := none, spent := false }

/-- Whether any zone has priority (R57). -/
def anyPriority (s : State) : Bool := (places 12).any fun z => (s.zone z).priority.isSome

/-- Whether a zone is deferred (R58). -/
def decideDeferred (priority : Bool) (c : ZoneSettings) (r : Zone) : Bool :=
  priority && c.type == .room && r.accepted && nonFrost r

def State.setZones (s : State) (v : Vector Zone 12) : State := { s with zones := { s.zones with zones := v } }

/-- Priority recomputed for every zone. -/
def recomputePriority (s : State) : State :=
  s.setZones (mapAll (fun z r => decidePriority (s.zoneCfg z) r) s.zones.zones)

/-- Deferral recomputed for every zone. -/
def recomputeDeferral (s : State) : State :=
  s.setZones (mapAll (fun z r => { r with deferred := decideDeferred (anyPriority s) (s.zoneCfg z) r }) s.zones.zones)

/-! ## Valves (section 3.7) -/

/-- A valve that enters OPENING, with the entry test (R61). -/
def toOpening (travel : Nat) (v : Valve) : Valve :=
  if v.switch = some true then { v with state := .open, travel := none }
  else { v with state := .opening, travel := startTimer travel }

/-- A valve that enters CLOSING, with the entry test (R61). -/
def toClosing (travel : Nat) (v : Valve) : Valve :=
  if v.switch = some false then { v with state := .closed, travel := none }
  else { v with state := .closing, travel := startTimer travel }

/-- A drive that becomes energised (R61). -/
def energise (travel : Nat) (v : Valve) : Valve :=
  let v := { v with drive := true }
  match v.state with
  | .closed | .closing | .stuckOpen => toOpening travel v
  | .opening | .open | .stuckClosed => v

/-- A drive that becomes de-energised (R61). -/
def deenergise (travel : Nat) (v : Valve) : Valve :=
  let v := { v with drive := false }
  match v.state with
  | .opening | .open | .stuckClosed => toClosing travel v
  | .closed | .closing | .stuckOpen => v

/-- The zone that holds a valve output (R43). -/
def holderOf (s : State) (o : OutputId) : Option ZoneId :=
  (places 12).find? fun z => (s.zoneCfg z).output == some o

/-- Whether the drive of an output is commanded energised (R59). -/
def driveWanted (s : State) (o : OutputId) : Bool :=
  match holderOf s o with
  | none => false
  | some z =>
    (s.zoneCfg z).enable && (s.zone z).accepted && !(s.zone z).deferred && s.burner.state != .outputFault

/-- A valve whose drive follows its command; only a change of command is an event (R59, R61). -/
def driveValve (travel : Nat) (wanted : Bool) (v : Valve) : Valve :=
  if wanted = v.drive then v else if wanted then energise travel v else deenergise travel v

/-- Every drive command recomputed (R59). -/
def recomputeDrives (s : State) : State :=
  { s with zones := { s.zones with
      valves := mapAll (fun o v => driveValve s.settings.common.travelTime (driveWanted s o) v) s.zones.valves } }

/-- The detail of VALVE_STUCK: output, zone or 255, and direction (R62, R172). -/
def stuckDetail (s : State) (o : OutputId) (stuckOpen : Bool) : BitVec 24 :=
  detailBytes o.val (((holderOf s o).map (·.val)).getD 255) (flagCode stuckOpen)

/-- A valve that becomes stuck closed or stuck open, which raises VALVE_STUCK (R61, R62). -/
def stick (o : OutputId) (stuckOpen : Bool) (s : State) : State :=
  raise .valveStuck (stuckDetail s o stuckOpen)
    (s.setValve o { s.valve o with state := if stuckOpen then .stuckOpen else .stuckClosed, travel := none })

/-! ## Burner demand (R64), and what follows any change at the zones -/

/-- Whether a zone's valve lets it count: it is OPEN, or the zone holds no output (R64). -/
def valveCounts (s : State) (z : ZoneId) : Bool :=
  match (s.zoneCfg z).output with
  | none => true
  | some o => (s.valve o).state == .open

/-- Whether a zone adds to burner demand (R64). -/
def addsDemand (s : State) (z : ZoneId) : Bool :=
  (s.zone z).accepted && !(s.zone z).deferred && valveCounts s z

/-- Burner demand (R64). -/
def demandWanted (s : State) : Bool := (places 12).any (addsDemand s)

/-- Burner demand recomputed, a change reported to the burner sequencer (R64). -/
def recomputeDemand (s : State) : State :=
  let d := demandWanted s
  if d = s.zones.demand then s
  else
    let s := { s with zones := { s.zones with demand := d } }
    if d then demandRises s else demandFalls s

/-- What follows a change at the zones, in the order of R56 to R65: priority, deferral, valve commands, the pump, burner
demand. Demand is judged once, at the end of the step. -/
def settle (s : State) : State :=
  recomputeDemand (recomputePump (recomputeDrives (recomputeDeferral (recomputePriority s))))

/-- The zones that satisfy a test re-evaluated in order, and what follows. -/
def reevalWhere (cause : ReevalCause) (p : ZoneId → Bool) (s : State) : State :=
  settle (forEach ((places 12).filter p) (reevalZone cause) s)

/-- Every zone that binds a station re-evaluated (R44). -/
def reevalBinding (cause : ReevalCause) (a : Addr) (s : State) : State :=
  reevalWhere cause (fun z => (s.zoneCfg z).binding.contains a) s

/-! ## The effective floor (section 3.5) -/

/-- The tank contribution (R55). -/
def tankFloor (c : CommonSettings) : TankState → Nat
  | .normal => 0
  | .low => c.lowFloor
  | .empty => 7
  | .unknown => c.unknownFloor

/-- The effective floor (R55). -/
def floorWanted (s : State) : Nat := max s.settings.common.mgmtFloor (tankFloor s.settings.common s.tank.state)

/-- The acceptance of every zone recomputed, without the rest of re-evaluation (R46, R56). -/
def reacceptAll (s : State) : State :=
  s.setZones (mapAll
    (fun z r => { r with accepted := (s.zoneCfg z).enable && decideAccepted s.zones.floor r.level }) s.zones.zones)

/-- The effective floor recomputed; a change recomputes every acceptance and is reported to the alarm unit (R55). DESIGN
CHOICE: what the acceptances change, burner demand among it, follows before that report (log entry 40). -/
def recomputeFloor (s : State) : State :=
  let f := floorWanted s
  if f = s.zones.floor then s
  else reportStatus (settle (reacceptAll { s with zones := { s.zones with floor := f } }))

/-! ## Writes (section 3.9) -/

/-- A zone's settings changed, then the zone re-evaluated (R46, R68). -/
def writeZone (f : ZoneSettings → ZoneSettings) (z : ZoneId) (s : State) : State :=
  settle (reevalZone .other z (s.setZoneCfg z (f (s.zoneCfg z))))

/-- A write of a zone's type or limit: any priority call of the zone ends, and one still standing begins afresh (R57,
R68). -/
def writePrioritySetting (f : ZoneSettings → ZoneSettings) (z : ZoneId) (s : State) : State :=
  writeZone f z (endPriority z s)

/-- The derived state of a disabled zone (R54). -/
def disabledZone : Zone := {}

/-- A zone's enable set: its hold timer starts when it has no present unit (R48, R54). -/
def enableZone (z : ZoneId) (s : State) : State :=
  let s := s.setZoneCfg z { s.zoneCfg z with enable := true }
  let hold := if presentUnits s z = [] then startUnlessZero (s.zoneCfg z).holdTime else none
  reevalZone .other z (s.setZone z { disabledZone with hold := hold })

/-- A zone's enable cleared (R54). -/
def disableZone (z : ZoneId) (s : State) : State :=
  (s.setZoneCfg z { s.zoneCfg z with enable := false }).setZone z disabledZone

/-- A write of a zone's enable (R54); the value already held leaves the re-evaluation alone. -/
def writeEnable (b : Bool) (z : ZoneId) (s : State) : State :=
  settle
    (if b = (s.zoneCfg z).enable then reevalZone .other z s else if b then enableZone z s else disableZone z s)

/-- A new output placed in CLOSING, de-energised, with the entry test (R63). -/
def placeOutput (o : OutputId) (s : State) : State :=
  s.setValve o (toClosing s.settings.common.travelTime { s.valve o with drive := false })

/-- A zone's valve output changed (R63), without what follows. -/
def assignOutput (new : Option OutputId) (z : ZoneId) (s : State) : State :=
  let s := s.setZoneCfg z { s.zoneCfg z with output := new }
  match new with
  | none => s
  | some o => placeOutput o s

/-- A write of a zone's valve output (R63): one the zone already holds changes nothing. -/
def writeOutput (new : Option OutputId) (z : ZoneId) (s : State) : State :=
  if new = (s.zoneCfg z).output then s else settle (reevalZone .other z (assignOutput new z s))

/-! ## The commands that reach the zone unit alone -/

/-- HOLD_TIMER_EXPIRY (R48). -/
def execHoldTimerExpiry (z : ZoneId) (s : State) : Host.Outcome State Fault Refusal :=
  whenPowered s fun s =>
    if isDue (s.zone z).hold then settle (reevalZone .other z (s.setZone z { s.zone z with hold := none })) else s

/-- BOOST_EXPIRY (R51): boost remaining reaches 0, and the zone is re-evaluated. -/
def execBoostExpiry (z : ZoneId) (s : State) : Host.Outcome State Fault Refusal :=
  whenPowered s fun s =>
    if isDue (s.zone z).boost then settle (reevalZone .other z (s.setZone z { s.zone z with boost := none })) else s

/-- FALLBACK_DUTY_BOUNDARY (R46, R49): a zone in FALLBACK is re-evaluated. -/
def execFallbackDutyBoundary (z : ZoneId) (s : State) : Host.Outcome State Fault Refusal :=
  whenPowered s fun s => if (s.zone z).demand = .fallback then settle (reevalZone .other z s) else s

/-- PRIORITY_TIMER_EXPIRY (R57): the zone ceases to have priority, and its priority-spent flag is set. -/
def execPriorityTimerExpiry (z : ZoneId) (s : State) : Host.Outcome State Fault Refusal :=
  whenPowered s fun s =>
    if isDue (s.zone z).priority then settle (s.setZone z { s.zone z with priority := none, spent := true }) else s

/-- A switch close at a valve record (R61). -/
def switchCloses (o : OutputId) (s : State) : State :=
  let v := { s.valve o with switch := some true }
  let t := s.setValve o v
  match v.state with
  | .closed => stick o true t
  | .opening | .stuckClosed => t.setValve o { v with state := .open, travel := none }
  | .open | .closing | .stuckOpen => t

/-- A switch open at a valve record (R61). -/
def switchOpens (o : OutputId) (s : State) : State :=
  let v := { s.valve o with switch := some false }
  let t := s.setValve o v
  match v.state with
  | .open => stick o false t
  | .closing | .stuckOpen => t.setValve o { v with state := .closed, travel := none }
  | .closed | .opening | .stuckClosed => t

/-- SWITCH_CLOSE (R60, R61): a change of the counted value from open to closed. -/
def execSwitchClose (o : OutputId) (s : State) : Host.Outcome State Fault Refusal :=
  whenPowered s fun s => if (s.valve o).switch = some false then settle (switchCloses o s) else s

/-- SWITCH_OPEN (R60, R61): a change of the counted value from closed to open. -/
def execSwitchOpen (o : OutputId) (s : State) : Host.Outcome State Fault Refusal :=
  whenPowered s fun s => if (s.valve o).switch = some true then settle (switchOpens o s) else s

/-- The first counted value of one end switch: open counts as a switch open event, closed as no event (R60). -/
def firstValue (closed : BitVec 12) (o : OutputId) (s : State) : State :=
  if (s.valve o).switch.isSome then s
  else if closed.getLsbD o.val then s.setValve o { s.valve o with switch := some true }
  else switchOpens o s

/-- END_SWITCH_FIRST_VALUE (R60): the first counted values are taken 0.5 s after the part starts, bit n for output n. -/
def execEndSwitchFirstValue (closed : BitVec 12) (s : State) : Host.Outcome State Fault Refusal :=
  whenPowered s fun s => settle (forEach (places 12) (firstValue closed) s)

/-- What a travel expiry does at a valve record (R61). -/
def travelExpires (o : OutputId) (s : State) : State :=
  match (s.valve o).state with
  | .opening => stick o false s
  | .closing => stick o true s
  | .closed | .open | .stuckClosed | .stuckOpen => s

/-- TRAVEL_EXPIRY (R61). -/
def execTravelExpiry (o : OutputId) (s : State) : Host.Outcome State Fault Refusal :=
  whenPowered s fun s => if isDue (s.valve o).travel then settle (travelExpires o s) else s

end Sys2Proof.Machine
end

