-- ==== Sys2Proof/Machine/Monitor.lean ====
section
/-! DEFINITION. The output monitor's judging of relay contacts (spec/09, sections 9.1 and 9.2). The drives themselves stand
in Machine/Drives.lean. -/

namespace Sys2Proof.Machine

/-- The detail of RELAY_FAULT: relay, drive command and counted sense (R167, R172). -/
def relayDetail (r : Relay) (x : RelayState) : BitVec 24 :=
  detailBytes (relayCode r) (flagCode x.drive) (flagCode x.sense)

/-- Whether a fault of this relay holds the RESET drive and reaches the burner and recovery (R167). -/
def isBoxRelay : Relay → Bool
  | .burner | .reset => true
  | .pump | .preheat => false

/-- A mismatch on a relay whose fault is not latched (R167). The detail is the command and the sense that were judged, and
RELAY_FAULT joins the pending set before what the receivers of the report raise (log entry 9). While the fault is latched
the readback timer is stopped and the phase stays as it was (log entry 33). -/
def mismatch (r : Relay) (s : State) : State :=
  let x := s.relay r
  let s := s.setRelay r { x with fault := true, timer := none }
  if isBoxRelay r then
    recoveryFault r (settle (faultBurner (raise .relayFault (relayDetail r x) (followDrive .reset s))))
  else raise .relayFault (relayDetail r x) s

/-- CONTACT_SENSE_CHANGE (R164, R166): the counted sense changes, and in SETTLED the change is a mismatch. -/
def execContactSenseChange (r : Relay) (closed : Bool) (s : State) : Host.Outcome State Fault Refusal :=
  whenPowered s fun s =>
    let x := s.relay r
    if closed = x.sense then s
    else
      let s := s.setRelay r { x with sense := closed }
      if x.phase = .settled ∧ ¬ x.fault then mismatch r s else s

/-- READBACK_EXPIRY (R165): the counted sense is compared with the drive command. -/
def execReadbackExpiry (r : Relay) (s : State) : Host.Outcome State Fault Refusal :=
  whenPowered s fun s =>
    let x := s.relay r
    if x.phase = .checking ∧ x.timer.isSome ∧ ¬ x.fault then
      if x.sense = x.drive then s.setRelay r { x with phase := .settled, timer := none } else mismatch r s
    else s

/-- Every fault latch cleared (R168). -/
def clearLatches (s : State) : State := forEach allRelays (fun r s => s.setRelay r { s.relay r with fault := false }) s

/-- CLEAR_FAULT as the monitor carries it out (R168), in its four steps: the latches, the RESET drive, the burner's leaving
of OUTPUT_FAULT with the valve drives that follow, and the checks. -/
def clearFaults (s : State) : State :=
  let cleared := allRelays.filter fun r => (s.relay r).fault
  let s := followDrive .reset (clearLatches s)
  let s := if s.burner.state = .outputFault then settle (leaveFault s) else s
  forEach cleared (fun r s => s.setRelay r (startCheck (s.relay r))) s

end Sys2Proof.Machine
end

