-- ==== Sys2Proof/Machine/Stations.lean ====
section
/-! DEFINITION. The station table (spec/02) but for arrivals, which stand in Machine/Arrival.lean: entries, presence,
missed marks, forwarding, polling and writes. -/

namespace Sys2Proof.Machine

/-! ## Classes and reports (R29, R44) -/

/-- The default silence limit of a class (R29). EMPTY has none, and keeps the limit it had. -/
def silenceDefault (kept : Nat) : StationClass → Nat
  | .empty => kept
  | .roomUnit => 900
  | .tankSender => 3600
  | .panel => 300
  | .serviceTool => 120
  | .other => 900

/-- The class an EMPTY entry learns from the kind of an accepted frame (R29). -/
def learnedClass (kind : BitVec 4) : StationClass :=
  if kind = kindDemand then .roomUnit else if kind = kindLevel then .tankSender else .other

/-- A class change reported to the zone unit: the station's unit record becomes absent (R45) and its zones are
re-evaluated (R44). -/
def classReported (a : Addr) (s : State) : State := reevalBinding .other a (s.setUnit a none)

/-- The detail of STATION_SILENT and STATION_ABSENT (R33, R172). -/
def stationDetail (a : Addr) (e : Station) : BitVec 24 :=
  detailBytes a.val (classCode e.cls) (segmentCode e.segment)

/-- The alarm of a change of presence on a watched entry (R33). -/
def presenceAlarm (a : Addr) (e : Station) (s : State) : State :=
  if e.watched then
    match e.presence with
    | .silent => raise .stationSilent (stationDetail a e) s
    | .absent => raise .stationAbsent (stationDetail a e) s
    | .unknown | .present => s
  else s

/-- An entry replaced, with a change of its presence alarmed and reported to the zone unit (R31, R33, R44). DESIGN CHOICE: the
station's alarm joins the pending set before a FROST_CALL of that report (log entry 42). -/
def replaceStation (a : Addr) (e : Station) (s : State) : State :=
  let old := (s.station a).presence
  let s := s.setStation a e
  if e.presence = old then s else reevalBinding .other a (presenceAlarm a e s)

/-! ## Aging (R31) -/

/-- The absence point (R31). -/
def absencePoint (silence : Nat) : Nat := min (3 * silence) max16

/-- The presence that the two tests of R31 leave. -/
def agedPresence (e : Station) : Presence :=
  let p := if (e.presence = .present ∨ e.presence = .unknown) ∧ e.silence ≤ e.age then .silent else e.presence
  if p ≠ .absent ∧ absencePoint e.silence ≤ e.age then .absent else p

/-- The tests of R31 on one entry, with one report of the change they end in. -/
def testAge (a : Addr) (s : State) : State :=
  let e := s.station a
  if a = 0 ∨ e.cls = .empty then s else replaceStation a { e with presence := agedPresence e } s

/-- SILENCE_LIMIT_REACHED (R31): the age has reached the silence limit while PRESENT or UNKNOWN. -/
def execSilenceLimitReached (a : Addr) (s : State) : Host.Outcome State Fault Refusal :=
  whenPowered s fun s =>
    let e := s.station a
    if (e.presence = .present ∨ e.presence = .unknown) ∧ e.silence ≤ e.age then testAge a s else s

/-- ABSENCE_POINT_REACHED (R31): the age has reached the absence point. -/
def execAbsencePointReached (a : Addr) (s : State) : Host.Outcome State Fault Refusal :=
  whenPowered s fun s =>
    let e := s.station a
    if e.presence ≠ .absent ∧ absencePoint e.silence ≤ e.age then testAge a s else s

/-- DUPLICATE_WINDOW_EXPIRY (R27): the window of the last accepted record ends. -/
def execDuplicateWindowExpiry (a : Addr) (s : State) : Host.Outcome State Fault Refusal :=
  whenPowered s fun s =>
    match (s.station a).last with
    | none => s
    | some l =>
      if isDue l.window then s.setStation a { s.station a with last := some { l with window := none } } else s

/-! ## Missed marks (R32) -/

/-- An entry with one more missed mark; the third makes it ABSENT unless its class is EMPTY. -/
def markedStation (e : Station) : Station :=
  { e with
    marks := min (e.marks + 1) 3
    presence := if e.marks = 2 ∧ e.cls ≠ .empty then .absent else e.presence }

/-- A missed mark added to an entry. -/
def addMark (a : Addr) (s : State) : State := replaceStation a (markedStation (s.station a)) s

/-- A missed mark reported for an undelivered frame, which raises UNDELIVERED too (R32). When the mark makes the station
ABSENT, STATION_ABSENT joins the pending set before UNDELIVERED (log entry 28), and so does a FROST_CALL that follows from it
(log entry 42). -/
def markUndelivered (a : Addr) (s : State) : State := raise .undelivered (detailBytes a.val 0 0) (addMark a s)

/-! ## Forwarding (R34, R35) -/

/-- Whether a rule matches a frame (R34). -/
def ruleMatches (seg : Segment) (f : Frame) (r : ForwardRule) : Bool :=
  r.enable && ((f.source.setWidth 5 ^^^ r.sourceValue) &&& ~~~r.sourceMask) == 0
    && ((f.dest.setWidth 5 ^^^ r.destValue) &&& ~~~r.destMask) == 0
    && r.kinds.getLsbD f.kind.toNat
    && match r.ingress, seg with
      | .either, _ | .a, .a | .b, .b => true
      | .a, .b | .b, .a => false

/-- The default decision: a frame does not cross exactly when it is unicast to a station recorded on its arrival segment
(R35). -/
def defaultCrosses (s : State) (seg : Segment) (f : Frame) : Bool :=
  match addrOf f.dest with
  | none => true
  | some d => !recordedOn s d seg

/-- The forwarding decision (R35): the first matching rule, then the default. -/
def crosses (s : State) (seg : Segment) (f : Frame) : Bool :=
  match s.settings.rules.toList.find? (ruleMatches seg f) with
  | none => defaultCrosses s seg f
  | some r =>
    match r.action with
    | .forward => true
    | .block => false
    | .pass => defaultCrosses s seg f

/-! ## Polling (section 2.6) -/

/-- A POLL placed in a port's poll slot; a slot that still holds a withdrawn copy makes it wait (R16). -/
def placePoll (f : Frame) (p : Port) : Port :=
  if p.poll.isNone then { p with poll := some { frame := f } } else { p with nextPoll := some f }

/-- Whether a port is in the middle of its poll's attempt, the sending or its ack slot. -/
def pollUnderWay (p : Port) : Bool :=
  match p.occupancy with
  | .sending .poll _ | .awaiting .poll _ | .late (some (.poll, _)) => true
  | _ => false

/-- The in-flight poll's copy withdrawn from a port: at once, or at the end of the attempt in progress (R16, R38). -/
def withdrawCopy (p : Port) : Port :=
  if p.nextPoll.isSome then { p with nextPoll := none }
  else if pollUnderWay p then { p with poll := p.poll.map fun e => { e with withdrawn := true } }
  else { p with poll := none }

/-- A poll slot emptied, and taken by the later poll that waits for it (R16). -/
def releasePoll (p : Port) : Port := { p with poll := p.nextPoll.map fun f => { frame := f }, nextPoll := none }

/-- Where the POLL of a station is placed: on its recorded segment, or on both (R37). -/
def pollPlaces (e : Station) : Bool × Bool :=
  if e.cls = .empty then (true, true)
  else
    match e.segment with
    | some .a => (true, false)
    | some .b => (false, true)
    | none => (true, true)

/-- A poll of a station starts (R37): one POLL frame is built and handed to one or both poll slots. -/
def beginPoll (a : Addr) (s : State) : State :=
  let f := buildFrame (BitVec.ofNat 8 a.val) kindPoll s.ownSeq []
  let w := pollPlaces (s.station a)
  let s := s.takeSeq kindPoll
  { s with
    portA := if w.1 then placePoll f s.portA else s.portA
    portB := if w.2 then placePoll f s.portB else s.portB
    table := { s.table with inFlight := some { station := a, onA := w.1, onB := w.2 } } }

/-- Whether an entry is due for polling (R36). -/
def pollDue (s : State) (a : Addr) : Bool := (s.station a).poll && (s.station a).countdown == 0

/-- The addresses in the order of the round: from the one after the pointer, wrapping from 30 to 1 (R37). -/
def pollRound (pointer : Addr) : List Addr :=
  (List.range 30).map fun i => ⟨(pointer.val + i) % 30 + 1, by omega⟩

/-- The poll search (R37): nothing while a poll is in flight; a forced station first, then the round. -/
def pollSearch (s : State) : State :=
  if s.table.inFlight.isSome then s
  else
    match s.table.forced with
    | some a => beginPoll a { s with table := { s.table with forced := none } }
    | none =>
      match (pollRound s.table.pointer).find? (pollDue s) with
      | none => s
      | some a => beginPoll a { s with table := { s.table with pointer := a } }

/-- The end of the poll in flight: the station's countdown is loaded, and the next poll is searched for (R38). -/
def endPoll (a : Addr) (s : State) : State :=
  let s := s.setStation a { s.station a with countdown := s.settings.pollPeriod }
  pollSearch { s with table := { s.table with inFlight := none } }

/-- The in-flight poll's copies withdrawn from the poll slots that were given one. -/
def withdrawPoll (i : InFlight) (s : State) : State :=
  { s with
    portA := if i.onA && !i.undeliveredA then withdrawCopy s.portA else s.portA
    portB := if i.onB && !i.undeliveredB then withdrawCopy s.portB else s.portB }

/-- A frame from a station is accepted: a poll of it in flight is completed (R38), and the next one searched for, before the
zones take what the acceptance changes (log entry 39). -/
def completePoll (a : Addr) (s : State) : State :=
  match s.table.inFlight with
  | none => s
  | some i =>
    if i.station = a then
      endPoll a (if i.phase = .sending then withdrawPoll i s else s)
    else s

/-- A port reports the POLL answered ACK (R16, R38): the answer wait starts, and a second copy is withdrawn. -/
def pollAcked (seg : Segment) (s : State) : State :=
  match s.table.inFlight with
  | none => s
  | some i =>
    let other := match seg with
      | .a => { i with onA := false }
      | .b => { i with onB := false }
    let s := withdrawPoll other s
    { s with table := { s.table with inFlight := some { i with phase := .awaiting (startTimer answerWait) } } }

/-- The in-flight record with a segment's copy reported undelivered. -/
def copyLost (seg : Segment) (i : InFlight) : InFlight :=
  match seg with
  | .a => { i with undeliveredA := true }
  | .b => { i with undeliveredB := true }

/-- Whether every copy of the in-flight poll is undelivered (R38). -/
def allCopiesLost (i : InFlight) : Bool := (!i.onA || i.undeliveredA) && (!i.onB || i.undeliveredB)

/-- A port reports the POLL undelivered (R16, R38): with every copy undelivered the one mark is added and the poll
ends. DESIGN CHOICE: what a mark that makes the station ABSENT reaches, the zones and a STATUS among it, comes before the
search for the next poll, which takes the sequence after it; R38 gives no order (log entry 39). -/
def pollUndelivered (seg : Segment) (s : State) : State :=
  match s.table.inFlight with
  | none => s
  | some i =>
    let i := copyLost seg i
    if allCopiesLost i then endPoll i.station (markUndelivered i.station s)
    else { s with table := { s.table with inFlight := some i } }

/-- POLL_COUNTDOWN_EXPIRY (R36, R37): a countdown has reached 0, and a search is made. -/
def execPollCountdownExpiry (a : Addr) (s : State) : Host.Outcome State Fault Refusal :=
  whenPowered s fun s => if a ≠ 0 ∧ (s.station a).countdown = 0 then pollSearch s else s

/-- POLL_ANSWER_WAIT_EXPIRY (R32, R38): a missed mark is added, without UNDELIVERED, and the poll ends. DESIGN CHOICE: as in
`pollUndelivered`, what the mark reaches at the zones comes before the search for the next poll (log entry 39). -/
def execPollAnswerWaitExpiry (s : State) : Host.Outcome State Fault Refusal :=
  whenPowered s fun s =>
    match s.table.inFlight with
    | none => s
    | some i =>
      if i.phase = .awaiting (some 0) then endPoll i.station (addMark i.station s) else s

/-- A FORCE_POLL taken (R39). -/
def forcePoll (a : Addr) (s : State) : State := pollSearch { s with table := { s.table with forced := some a } }

/-! ## Writes (R40) -/

/-- An entry returned to its unlearned state; the silence limit is left as it stands. -/
def unlearned (pollPeriod : Nat) (e : Station) : Station := { silence := e.silence, countdown := pollPeriod }

/-- A write of a station's class. -/
def writeClass (c : StationClass) (a : Addr) (s : State) : State :=
  let e := s.station a
  let new := if c = .empty then unlearned s.settings.pollPeriod e
    else
      { e with
        cls := c, configured := true, silence := if e.cls = .empty then silenceDefault e.silence c else e.silence }
  let t := s.setStation a new
  if new.cls ≠ e.cls then classReported a t
  else if new.presence ≠ e.presence then reevalBinding .other a t
  else t

/-- A write of a station's poll flag; setting it makes a poll search (R36, R37). -/
def writePoll (b : Bool) (a : Addr) (s : State) : State :=
  let s := s.setStation a { s.station a with poll := b }
  if b then pollSearch s else s

/-- Every countdown above the poll period loaded with it (R36). -/
def trimCountdowns (s : State) : State :=
  { s with table := { s.table with
      entries := mapAll (fun _ e => { e with countdown := min e.countdown s.settings.pollPeriod }) s.table.entries } }

/-- A write of the poll period (R36). -/
def writePeriod (n : Nat) (s : State) : State :=
  trimCountdowns { s with settings := { s.settings with pollPeriod := n } }

end Sys2Proof.Machine
end

