-- ==== Sys2Proof/Machine/Ports.lean ====
section
/-! DEFINITION. The line ports (spec/01) but for arrivals, which stand in Machine/Arrival.lean: transmit selection,
attempts and their outcomes, the occupation of a segment, and joining a crossing queue. -/

namespace Sys2Proof.Machine

/-! ## The places of a port that hold frames -/

/-- A port's crossing queue with its head changed. -/
def changeHead (f : QueueEntry → QueueEntry) : List QueueEntry → List QueueEntry
  | [] => []
  | e :: l => f e :: l

/-- A unicast own frame, or the head of the queue, with one attempt added (R12, R16). -/
def addAttempt (which : Candidate) (p : Port) : Port :=
  match which with
  | .reply => { p with reply := p.reply.map fun e => { e with attempts := e.attempts + 1 } }
  | .poll => { p with poll := p.poll.map fun e => { e with attempts := e.attempts + 1 } }
  | .crossing => { p with queue := changeHead (fun e => { e with attempts := e.attempts + 1 }) p.queue }
  | .alarm | .status => p

/-- A unicast frame's retry wait set or ended. -/
def setWait (which : Candidate) (w : ShortTimer) (p : Port) : Port :=
  match which with
  | .reply => { p with reply := p.reply.map fun e => { e with wait := w } }
  | .poll => { p with poll := p.poll.map fun e => { e with wait := w } }
  | .crossing => { p with queue := changeHead (fun e => { e with wait := w }) p.queue }
  | .alarm | .status => p

/-- A frame that has left its place: the slot empties, the head leaves its queue (R11, R12, R15). A STATUS leaves only
while its slot still holds the frame that was sent (log entry 10). -/
def releasePlace (which : Candidate) (sent : Frame) (p : Port) : Port :=
  match which with
  | .reply => { p with reply := none }
  | .poll => releasePoll p
  | .alarm => { p with alarm := none }
  | .status => if p.status = some sent then { p with status := none } else p
  | .crossing => { p with queue := p.queue.drop 1 }

/-- The attempts made on the frame in a place. -/
def attemptsMade (which : Candidate) (p : Port) : Nat :=
  match which with
  | .reply => (p.reply.map (·.attempts)).getD 0
  | .poll => (p.poll.map (·.attempts)).getD 0
  | .crossing => (p.queue.head?.map (·.attempts)).getD 0
  | .alarm | .status => 0

/-- Whether the poll slot holds a copy withdrawn in the middle of its attempt (R16). -/
def pollWithdrawn (p : Port) : Bool := (p.poll.map (·.withdrawn)).getD false

/-! ## Transmit selection (R17) -/

/-- A unicast own frame that is ready: present, and not in its retry wait. -/
def readySlot (e : Option SlotEntry) : Option Frame := e.bind fun e => if e.wait.isNone then some e.frame else none

/-- The head of a crossing queue when it is ready (R10). -/
def readyHead (q : List QueueEntry) : Option Frame :=
  q.head?.bind fun e => if !e.unicast || e.wait.isNone then some e.frame else none

/-- The first ready candidate of a port, with its frame (R17). -/
def firstReady (p : Port) : Option (Candidate × Frame) :=
  ((readySlot p.reply).map (Candidate.reply, ·)).or
    (((readySlot p.poll).map (Candidate.poll, ·)).or
      ((p.alarm.map (Candidate.alarm, ·)).or
        ((p.status.map (Candidate.status, ·)).or
          ((readyHead p.queue).map (Candidate.crossing, ·)))))

/-- TRANSMIT_SELECTION (R17): while the segment is free, the first ready candidate is sent. -/
def execTransmitSelection (seg : Segment) (s : State) : Host.Outcome State Fault Refusal :=
  whenPowered s fun s =>
    if (s.port seg).occupancy = .free then
      match firstReady (s.port seg) with
      | none => s
      | some (which, f) => s.setOccupancy seg (.sending which f)
    else s

/-- Whether a frame that a port sends is unicast, so that it opens an ack slot (R1, R14). -/
def isUnicast (f : Frame) : Bool := f.dest != broadcastAddress

/-- How a port sees its segment when the check byte of a station's frame has ended, with the part's answer (R1): the ack slot of
a unicast frame, or the hold after a broadcast. In a frame that fails its check the destination byte decides as it was
received (log entry 36). -/
def afterCheckByte (f : Frame) (answer : Option Answer) : Occupancy := if isUnicast f then .slot answer else .hold

/-- FRAME_SENT (R1, R11, R12, R15): the check byte has gone out. A broadcast frame leaves its place and the segment is held
for 8 ms; a unicast frame's attempt is counted and its ack slot opens. -/
def execFrameSent (seg : Segment) (s : State) : Host.Outcome State Fault Refusal :=
  whenPowered s fun s =>
    match (s.port seg).occupancy with
    | .sending which f =>
      if isUnicast f then
        (s.setPort seg (addAttempt which (s.port seg))).setOccupancy seg (.awaiting which f)
      else (s.setPort seg (releasePlace which f (s.port seg))).setOccupancy seg .hold
    | .free | .receiving | .quiet | .slot _ | .hold | .awaiting _ _ | .late _ => s

/-- RETRY_WAIT_EXPIRY (R12, R16): the frame becomes ready again. -/
def execRetryWaitExpiry (seg : Segment) (place : UnicastPlace) (s : State) : Host.Outcome State Fault Refusal :=
  whenPowered s fun s =>
    let which := match place with
      | .reply => Candidate.reply
      | .poll => .poll
      | .crossing => .crossing
    s.setPort seg (setWait which none (s.port seg))

/-! ## The outcome of an attempt (R12, R13, R16) -/

/-- A frame that becomes undelivered: it leaves its place, it is counted, and a missed mark is reported. For a POLL the
outcome goes to the station table. -/
def frameUndelivered (seg : Segment) (which : Candidate) (f : Frame) (s : State) : State :=
  let s := s.setPort seg (releasePlace which f (s.port seg))
  let s := s.countLine seg fun c => { c with undelivered := inc16 c.undelivered }
  if which = .poll then pollUndelivered seg s
  else
    match addrOf f.dest with
    | none => s
    | some a => markUndelivered a s

/-- The retry wait an answer gives: 100 ms after RETRY, 250 ms after silence (R12). -/
def waitAfter : Option Answer → Nat
  | none => silenceWaitMs
  | some _ => retryWaitMs

/-- The outcome of an attempt, with no answer for silence. The answer of a withdrawn POLL is not reported, and its slot
empties. -/
def attemptOutcome (seg : Segment) (which : Candidate) (f : Frame) (answer : Option Answer) (s : State) : State :=
  let p := s.port seg
  if which = .poll ∧ pollWithdrawn p then s.setPort seg (releasePoll p)
  else
    match answer with
    | some .ack =>
      let s := s.setPort seg (releasePlace which f p)
      if which = .poll then pollAcked seg s else s
    | some .reject => frameUndelivered seg which f s
    | some .retry | none =>
      if attemptsMade which p < maxAttempts then s.setPort seg (setWait which (some (waitAfter answer)) p)
      else frameUndelivered seg which f s

/-! ## Occupation of a segment (R1, R2) -/

/-- The start of an arriving frame: an open ack slot of the part's own frame ends in silence (R13), and assembly begins.
A port that is sending receives nothing (R1). -/
def startReception (seg : Segment) (s : State) : State :=
  match (s.port seg).occupancy with
  | .free | .receiving | .quiet | .slot _ | .hold | .late none => s.setOccupancy seg .receiving
  | .awaiting which f | .late (some (which, f)) => (attemptOutcome seg which f none s).setOccupancy seg .receiving
  | .sending _ _ => s

/-- Whether a port is sending, and so receives nothing (R1). -/
def isSending (s : State) (seg : Segment) : Bool :=
  match (s.port seg).occupancy with
  | .sending _ _ => true
  | .free | .receiving | .quiet | .slot _ | .hold | .awaiting _ _ | .late _ => false

/-- FRAME_START (R1, R13). -/
def execFrameStart (seg : Segment) (s : State) : Host.Outcome State Fault Refusal :=
  whenPowered s fun s => startReception seg s

/-- Reception abandoned: the segment stays occupied until the line has been quiet (R1, R2). -/
def abandon (seg : Segment) (f : LineCounts → LineCounts) (s : State) : State :=
  if isSending s seg then s else ((startReception seg s).countLine seg f).setOccupancy seg .quiet

/-- FRAME_ABANDON (R2, first and third case). -/
def execFrameAbandon (seg : Segment) (cause : AbandonCause) (s : State) : Host.Outcome State Fault Refusal :=
  whenPowered s fun s =>
    match cause with
    | .missingStop => abandon seg (fun c => { c with checkErrors := inc16 c.checkErrors }) s
    | .lengthAboveEight => abandon seg (fun c => { c with malformed := inc16 c.malformed }) s

/-- CHARACTER_GAP_EXPIRY (R2, second case). -/
def execCharacterGapExpiry (seg : Segment) (s : State) : Host.Outcome State Fault Refusal :=
  whenPowered s fun s => abandon seg (fun c => { c with checkErrors := inc16 c.checkErrors }) s

/-- ACK_SLOT_CLOSE (R1, R12): the 8 ms end and the segment becomes free, the part's own attempt that nothing answered
counting as silent. An answer character that began in the slot and is still arriving keeps the segment occupied until it
has ended; after a broadcast and in the quiet time there is no slot, and `arriving` changes nothing (log entry 36). -/
def execAckSlotClose (slot : SlotEnd) (s : State) : Host.Outcome State Fault Refusal :=
  whenPowered s fun s =>
    match (s.port slot.seg).occupancy with
    | .quiet | .hold => s.setOccupancy slot.seg .free
    | .slot _ => s.setOccupancy slot.seg (if slot.arriving then .late none else .free)
    | .awaiting which f =>
      if slot.arriving then s.setOccupancy slot.seg (.late (some (which, f)))
      else (attemptOutcome slot.seg which f none s).setOccupancy slot.seg .free
    | .free | .receiving | .sending _ _ | .late _ => s

/-- An answer character has ended, or another character that began where only an answer may (R12, R13): an answer decides
the part's attempt, if one waits for it, and leaves the segment as `after`; any other character counts as silence and
starts a frame. -/
def takeAnswer (seg : Segment) (char : Byte) (attempt : Option (Candidate × Frame)) (after : Occupancy) (s : State) :
    State :=
  match answerOf char, attempt with
  | some a, some (which, f) => (attemptOutcome seg which f (some a) s).setOccupancy seg after
  | some _, none => s.setOccupancy seg after
  | none, _ => startReception seg s

/-- ANSWER_CHARACTER_RECEIVED (R12, R13): in the ack slot of the part's unicast frame the answer decides the attempt and
the slot stays open to its close. In another ack slot an answer is a station's own affair. A character that ends after its slot
has closed frees the segment (R1). Where no slot is open, the hold after a broadcast among the cases, any character starts
a frame (R1; log entry 16). -/
def execAnswerCharacterReceived (seg : Segment) (char : Byte) (s : State) : Host.Outcome State Fault Refusal :=
  whenPowered s fun s =>
    match (s.port seg).occupancy with
    | .awaiting which f => takeAnswer seg char (some (which, f)) (.slot none) s
    | .late attempt => takeAnswer seg char attempt .free s
    | .slot answer => takeAnswer seg char none (.slot answer) s
    | .free | .receiving | .quiet | .hold | .sending _ _ => startReception seg s

/-! ## Joining a crossing queue (R10) -/

/-- Whether the queue that a port of arrival feeds is full. -/
def queueFull (s : State) (seg : Segment) : Bool := queueLimit ≤ (s.port (otherSegment seg)).queue.length

/-- A frame placed at the tail of the queue that its port of arrival feeds (R7, R8, R9). -/
def enqueue (seg : Segment) (f : Frame) (s : State) : State :=
  let p := s.port (otherSegment seg)
  s.setPort (otherSegment seg) { p with queue := p.queue ++ [{ frame := f, unicast := isUnicast f }] }

/-- A frame that is to cross without the part answering for it: it joins its queue, or is dropped and counted (R8, R9). -/
def enqueueOrDrop (seg : Segment) (f : Frame) (s : State) : State :=
  if queueFull s seg then s.countLine seg fun c => { c with dropped := inc16 c.dropped } else enqueue seg f s

end Sys2Proof.Machine
end

