-- ==== Sys2Proof/Machine/Tank.lean ====
section
/-! DEFINITION. The tank gauge (spec/06). -/

namespace Sys2Proof.Machine

/-! ## The strapping table (R120, R121, R128) -/

/-- The points in force (R120). -/
def pointsInForce (t : TankSettings) : List StrapPoint := t.strap.toList.take t.pointCount

/-- Whether points rise strictly in height and do not fall in volume (R121). -/
def risingPoints : List StrapPoint → Bool
  | [] => true
  | [_] => true
  | p :: q :: l => p.height < q.height && p.volume ≤ q.volume && risingPoints (q :: l)

/-- Whether the strapping table is valid (R121). -/
def tableValid (t : TankSettings) : Bool :=
  let l := pointsInForce t
  ((l.head?.map (·.height)).getD 0) == 0 && risingPoints l && ((l.getLast?.map (·.height)).getD 0) ≤ t.height

/-- The volume of a level, interpolated from the points in force (R128). -/
def volumeAt : List StrapPoint → Nat → Nat
  | [], _ => 0
  | [p], _ => p.volume
  | p :: q :: l, h =>
    if h < q.height then p.volume + (q.volume - p.volume) * (h - p.height) / (q.height - p.height)
    else volumeAt (q :: l) h

/-- The lower median of the levels in the window; none while it is empty (R126). -/
def medianOf (w : List Nat) : Option Nat := (w.insertionSort (· ≤ ·))[(w.length - 1) / 2]?

/-! ## Measured volume and tank state (sections 6.5 and 6.6) -/

/-- The hysteresis of the tank states, in litres (R119). -/
def hysteresis : Nat := 50

/-- The tank state after a volume (R130). With the reserve below the cutout two rows of the table can fit one volume: the
row of the cutout is taken (log entry 29). -/
def classify (before : TankState) (reserve cutout : Nat) : Option Nat → TankState
  | none => .unknown
  | some v =>
    let cut := if before = .empty then cutout + hysteresis else cutout
    let res := if before = .empty ∨ before = .low then reserve + hysteresis else reserve
    if v ≤ cut then .empty else if v ≤ res then .low else .normal

/-- An entry into a tank state counted (R131, R133). -/
def countEntry (new : TankState) (c : GaugeCounts) : GaugeCounts :=
  match new with
  | .normal => c
  | .low => { c with lowEntries := inc16 c.lowEntries }
  | .empty => { c with emptyEntries := inc16 c.emptyEntries }
  | .unknown => { c with unknownEntries := inc16 c.unknownEntries }

/-- The alarm of an entry into a tank state (R131, R172). -/
def raiseEntry (cause : UnknownCause) (lastKnown : Option Nat) (left new : TankState) (s : State) : State :=
  let detail := detailHalfByte (orOnes 2 s.tank.volume) (tankCode left)
  match new with
  | .normal => s
  | .low => raise .tankLow detail s
  | .empty => raise .tankEmpty detail s
  | .unknown =>
    raise .tankUnknown (detailByteHalf (unknownCauseCode cause) (BitVec.ofNat 16 (orOnes 2 lastKnown))) s

/-- A change of tank state: counted and raised, then reported to the zone unit, the recovery unit and the alarm unit
(R131). DESIGN CHOICE: the alarm of the entry joins the pending set before what the three reports raise, such as the
HARD_LOCKOUT of a recovery unit that an end of EMPTY takes from SUSPENDED to HARD (R112, R113); R131 gives no order (log
entry 37). -/
def enterTank (cause : UnknownCause) (lastKnown : Option Nat) (new : TankState) (s : State) : State :=
  let left := s.tank.state
  let s := { s with tank := { s.tank with state := new, counts := countEntry new s.tank.counts } }
  reportStatus (suspendTold (recomputeFloor (raiseEntry cause lastKnown left new s)))

/-- The tank state reclassified from the state it had and the measured volume (R130). -/
def reclassify (cause : UnknownCause) (lastKnown : Option Nat) (s : State) : State :=
  let new := classify s.tank.state s.settings.tank.reserve s.settings.tank.cutout s.tank.volume
  if new = s.tank.state then s else enterTank cause lastKnown new s

/-- The measured volume as the window and the table give it (R129). -/
def volumeWanted (s : State) : Option Nat :=
  if s.tank.valid then (medianOf s.tank.window).map (volumeAt (pointsInForce s.settings.tank)) else none

/-- The measured volume recomputed; a volume change goes to the fuel accounts and then reclassifies the tank (R129). -/
def recomputeVolume (cause : UnknownCause) (s : State) : State :=
  let new := volumeWanted s
  let old := s.tank.volume
  if new = old then s
  else reclassify cause old (accountsTold new { s with tank := { s.tank with volume := new } })

/-- The strapping table re-tested and the volume recomputed (R121, R129). -/
def retestTable (cause : UnknownCause) (s : State) : State :=
  recomputeVolume cause { s with tank := { s.tank with valid := tableValid s.settings.tank } }

/-! ## Readings (sections 6.2 to 6.4) -/

/-- The levels the window holds (R126). -/
def windowLimit : Nat := 5
/-- The confirmation band and the implausibility margin, in millimetres (R119). -/
def confirmBand : Nat := 30
def implausibleMargin : Nat := 100

/-- A difference without sign. -/
def apart (a b : Nat) : Nat := (a - b) + (b - a)

/-- Levels that enter the window together: the stale timer starts and the volume is recomputed once (R126). -/
def enterLevels (l : List Nat) (s : State) : State :=
  recomputeVolume .tableInvalid
    { s with tank :=
      { s.tank with
        window := lastOf windowLimit (s.tank.window ++ l), stale := startTimer s.settings.tank.staleLimit } }

/-- A plausible reading judged with the pending slot empty (R124). -/
def judgeLevel (h : Nat) (s : State) : State :=
  match medianOf s.tank.window with
  | none => enterLevels [h] s
  | some m =>
    if apart h m ≤ s.settings.tank.jumpLimit then enterLevels [h] s
    else { s with tank := { s.tank with pendingSlot := some h } }

def State.countGauge (s : State) (f : GaugeCounts → GaugeCounts) : State :=
  { s with tank := { s.tank with counts := f s.tank.counts } }

/-- A plausible reading (R124, R125). -/
def plausibleLevel (h : Nat) (s : State) : State :=
  match s.tank.pendingSlot with
  | none => judgeLevel h s
  | some p =>
    let s := { s with tank := { s.tank with pendingSlot := none } }
    if apart h p ≤ confirmBand then enterLevels [p, h] s
    else judgeLevel h (s.countGauge fun c => { c with discarded := inc16 c.discarded })

/-- The sender temperature of a frame with an echo (R123). -/
def takeTemperature (t : Int) (k : Tank) : Tank :=
  match validTemperature t with
  | some t => { k with temperature := some t, tempAge := 0 }
  | none => { k with temperature := none }

/-- A LEVEL frame from a TANK_SENDER (R122, R123). -/
def takeLevel (source : Nat) (f : Frame) (s : State) : State :=
  match levelUllage f with
  | none => s.countGauge fun c => { c with noEcho := inc16 c.noEcho }
  | some u =>
    let s := { s with tank := takeTemperature (levelTemperature f) s.tank }
    if s.settings.tank.height + implausibleMargin < u then
      raise .senderImplausible (detailHalfByte u source)
        (s.countGauge fun c => { c with implausible := inc16 c.implausible })
    else
      plausibleLevel (s.settings.tank.height - u)
        (if levelWeakEcho f then s.countGauge fun c => { c with weakEcho := inc16 c.weakEcho } else s)

/-- The window and the pending slot emptied, the stale timer stopped (R127, R134). -/
def emptyWindow (s : State) : State :=
  { s with tank := { s.tank with window := [], pendingSlot := none, stale := none } }

/-- STALE_TIMER_EXPIRY (R127). -/
def execStaleTimerExpiry (s : State) : Host.Outcome State Fault Refusal :=
  whenPowered s fun s => if isDue s.tank.stale then recomputeVolume .stale (emptyWindow s) else s

/-! ## Writes (R120, R132, R134) -/

def State.setTank (s : State) (t : TankSettings) : State := { s with settings := { s.settings with tank := t } }

/-- A write of the tank height (R134); the value already held changes nothing. -/
def writeHeight (h : Nat) (s : State) : State :=
  if h = s.settings.tank.height then s
  else retestTable .heightWritten (emptyWindow (s.setTank { s.settings.tank with height := h }))

/-- A write of one field of a strapping slot (R120, R121): a slot within the table re-tests it. -/
def writeSlot (i : Fin 16) (f : StrapPoint → StrapPoint) (s : State) : State :=
  let t := s.settings.tank
  let u := s.setTank { t with strap := upd t.strap i (f t.strap[i]) }
  if i.val < t.pointCount then retestTable .tableInvalid u else u

/-- A write of the point count (R121). -/
def writePointCount (n : Nat) (s : State) : State :=
  retestTable .tableInvalid (s.setTank { s.settings.tank with pointCount := n })

/-- A write of the reserve or the cutout (R132). -/
def writeThreshold (f : TankSettings → TankSettings) (s : State) : State :=
  let s := s.setTank (f s.settings.tank)
  reclassify .stale s.tank.volume s

end Sys2Proof.Machine
end

