-- ==== Sys2Proof/Machine/Reload.lean ====
section
/-! DEFINITION. RELOAD (R184, R197): the working settings replaced from the stored settings area, and what each block's own
RELOAD rule makes of it. -/

namespace Sys2Proof.Machine

/-! ## The station table (R42) -/

/-- An entry under the stored configuration (R42). -/
def reloadedStation (pollPeriod : Nat) (c : StationConfig) (e : Station) : Station :=
  if c.cls ≠ .empty then
    { e with
      cls := c.cls, configured := true, pinned := c.pinned, segment := if c.pinned then c.segment else e.segment
      silence := c.silence, watched := c.watched, poll := c.poll }
  else if e.configured then unlearned pollPeriod e
  else { e with pinned := c.pinned, watched := c.watched, poll := c.poll }

/-- One entry reloaded: a class change makes the station's unit record absent. The zones it reaches are re-evaluated with
the rest in `reloadZones` (log entry 11). -/
def reloadStation (img : SettingsImage) (a : Addr) (s : State) : State :=
  let e := s.station a
  let new := reloadedStation s.settings.pollPeriod img.stations[a] e
  let s := s.setStation a new
  if new.cls ≠ e.cls then s.setUnit a none else s

/-- Whether a reload sets a poll flag that was clear. -/
def setsPollFlag (old new : State) : Bool :=
  (places 31).any fun a => (new.station a).poll && !(old.station a).poll

/-- The station table under the stored configuration (R42), with the search a set poll flag asks for (R37). -/
def reloadStations (img : SettingsImage) (s : State) : State :=
  let t := trimCountdowns (forEach ((places 31).filter (· ≠ 0)) (reloadStation img) s)
  if setsPollFlag s t then pollSearch t else t

/-! ## The zone unit (R70) -/

/-- One zone under its new settings, whose old ones are `old` (R70). -/
def reloadZone (old : Vector ZoneSettings 12) (z : ZoneId) (s : State) : State :=
  let before := old[z]
  let now := s.zoneCfg z
  let s := if now.type = before.type ∧ now.limit = before.limit then s else endPriority z s
  let s := match now.output with
    | none => s
    | some o => if before.output = some o then s else placeOutput o s
  if now.enable then
    if before.enable then reevalZone .other z s else enableZone z s
  else if before.enable then s.setZone z disabledZone
  else s

/-- The zone unit under its new settings (R70). -/
def reloadZones (old : Vector ZoneSettings 12) (s : State) : State :=
  settle (recomputeFloor (forEach (places 12) (reloadZone old) s))

/-! ## The tank gauge (R136) -/

/-- The tank gauge under its new settings (R136). DESIGN CHOICE: where the change of tank state ends the suspend condition
of a recovery unit in SUSPENDED with its budget spent, the entry to HARD requests its save of the running area (R113), and the
store starts it, although R197 says that the store's state is untouched (log entry 38). -/
def reloadTank (oldHeight : Nat) (s : State) : State :=
  let last := s.tank.volume
  let s := if s.settings.tank.height = oldHeight then retestTable .tableInvalid s
    else retestTable .heightWritten (emptyWindow s)
  reclassify .stale last s

/-! ## The whole -/

/-- The image that a RELOAD or a power-on takes: the stored contents, or the factory defaults (R196, R197). -/
def imageToLoad (s : State) : SettingsImage :=
  if passes settingsBytes s.store.settings then s.store.settings.contents else factoryImage

/-- The working settings replaced, then each block's own RELOAD rule (R42, R70, R136). The settings of the burner,
recovery, accounts and alarm units only act later (R76, R99, R137, R169). The sample interval acts as a write of it taken
last: a start that the other blocks make here is counted under the old one (R160, log entry 30). -/
def replaceSettings (img : SettingsImage) (s : State) : State :=
  let old := s.settings
  let s := reloadStations img { s with settings := { img.settings with sampleInterval := old.sampleInterval } }
  setSampleInterval img.settings.sampleInterval (reloadTank old.tank.height (reloadZones old.zones s))

/-- A RELOAD carried out (R197). DESIGN CHOICE: SETTINGS_LOST joins the pending set before what the blocks raise under the new
settings (log entry 42). -/
def reload (s : State) : State :=
  let img := imageToLoad s
  replaceSettings img (if passes settingsBytes s.store.settings then s else raise .settingsLost 0 s)

end Sys2Proof.Machine
end

