-- ==== Sys2Proof/Machine/Tables.lean ====
section
/-! DEFINITION. The twelve tables of the management unit (spec/10, section 10.8): what each field reads as, its size and
its access, and what a write of a writable field does. -/

namespace Sys2Proof.Machine

/-- The result codes of a reply (R21). -/
inductive Result where
  | done | doneClamped | busy | badTable | badIndex | badField | badValue | readOnly | notAllowed | serviceOpen | notHard
  deriving DecidableEq, Repr

def resultCode : Result → Nat
  | .done => 0 | .doneClamped => 1 | .busy => 2 | .badTable => 3 | .badIndex => 4 | .badField => 5 | .badValue => 6
  | .readOnly => 7 | .notAllowed => 8 | .serviceOpen => 9 | .notHard => 10

/-- The access of a field (R189): writable, guarded, read-only. -/
inductive Access where
  | w | g | r
  deriving DecidableEq, Repr

/-- A field of a table: its size in bytes, its access and its value as it stands. -/
structure Field where
  size   : Nat
  access : Access
  value  : Nat
  deriving DecidableEq, Repr

/-! ## Value forms (R181) -/

/-- A timer, all ones while it is not running. -/
def timerValue (size : Nat) (t : Timer) : Nat := orOnes size t

/-- A member of a list, all ones beyond its end. -/
def memberValue (size : Nat) (l : List Nat) (i : Nat) : Nat := orOnes size l[i]?

def stationValue (a : Option Addr) : Nat := (a.map (·.val)).getD 255

/-- The day of a stamp that is present, 0xFFFF under the marker (log entry 12). -/
def stampDay (s : Stamp) : Nat := orOnes 2 (s.map (·.1))

/-- The time of a stamp that is present, 0xFFFFFFFF under the marker. -/
def stampTime (s : Stamp) : Nat := orOnes 4 (s.map (·.2))

def lastValue (l : Option (BitVec 4 × BitVec 4)) : Nat := orOnes 2 (l.map fun p => p.1.toNat * 16 + p.2.toNat)

/-! ## Reading -/

/-- The fields of STATION that the whole table shares (R189). -/
def sharedStationField (s : State) : Nat → Option Field
  | 20 => some ⟨2, .w, s.settings.pollPeriod⟩
  | 21 => some ⟨1, .r, stationValue (s.table.inFlight.map (·.station))⟩
  | 22 => some ⟨1, .r, (s.table.inFlight.map (pollPhaseCode ·.phase)).getD 255⟩
  | 23 => some ⟨1, .r, stationValue s.table.forced⟩
  | 24 => some ⟨1, .r, s.table.pointer.val⟩
  | _ => none

/-- The fields of STATION at the indexes 1 to 30 (R189). -/
def ownStationField (e : Station) : Nat → Option Field
  | 1 => some ⟨1, .w, classCode e.cls⟩
  | 2 => some ⟨1, .r, if e.configured then 0 else 1⟩
  | 3 => some ⟨1, .w, segmentCode e.segment⟩
  | 4 => some ⟨1, .w, flagCode e.pinned⟩
  | 5 => some ⟨1, .r, presenceCode e.presence⟩
  | 6 => some ⟨2, .r, e.age⟩
  | 7 => some ⟨2, .w, e.silence⟩
  | 8 => some ⟨2, .r, lastValue (e.last.map fun l => (l.kind, l.seq))⟩
  | 9 => some ⟨2, .r, e.heard⟩
  | 10 => some ⟨1, .r, e.marks⟩
  | 11 => some ⟨1, .r, flagCode e.batteryLow⟩
  | 12 => some ⟨1, .w, flagCode e.watched⟩
  | 13 => some ⟨1, .w, flagCode e.poll⟩
  | 14 => some ⟨2, .r, e.countdown⟩
  | _ => none

/-- The fields of STATION at index 0, the part itself (R23). Field 14, which R23 does not name, is a free value (log
entry 6). -/
def partField (s : State) : Nat → Option Field
  | 1 => some ⟨1, .r, classCode .other⟩
  | 2 => some ⟨1, .r, 0⟩
  | 3 => some ⟨1, .r, segmentCode none⟩
  | 4 => some ⟨1, .r, 0⟩
  | 5 => some ⟨1, .r, presenceCode .present⟩
  | 6 => some ⟨2, .r, 0⟩
  | 7 => some ⟨2, .r, 65535⟩
  | 8 => some ⟨2, .r, lastValue s.table.ownLast⟩
  | 9 => some ⟨2, .r, s.table.ownHeard⟩
  | 10 => some ⟨1, .r, 0⟩
  | 11 => some ⟨1, .r, 0⟩
  | 12 => some ⟨1, .r, 0⟩
  | 13 => some ⟨1, .r, 0⟩
  | 14 => some ⟨2, .r, (Config.entryZeroCountdown s.free).toNat⟩
  | n => (sharedStationField s n).map fun f => { f with access := .r }

def stationField (s : State) (a : Addr) (n : Nat) : Option Field :=
  if a = 0 then partField s n else (ownStationField (s.station a) n).or (sharedStationField s n)

def ruleField (r : ForwardRule) : Nat → Option Field
  | 1 => some ⟨1, .w, flagCode r.enable⟩
  | 2 => some ⟨1, .w, r.sourceValue.toNat⟩
  | 3 => some ⟨1, .w, r.sourceMask.toNat⟩
  | 4 => some ⟨1, .w, r.destValue.toNat⟩
  | 5 => some ⟨1, .w, r.destMask.toNat⟩
  | 6 => some ⟨2, .w, r.kinds.toNat⟩
  | 7 => some ⟨1, .w, ingressCode r.ingress⟩
  | 8 => some ⟨1, .w, actionCode r.action⟩
  | _ => none

/-- A binding list as its three bytes, 0 for an unused place (R189). -/
def bindingValue (l : List Addr) : Nat :=
  ((l[0]?.map (·.val)).getD 0 * 256 + (l[1]?.map (·.val)).getD 0) * 256 + (l[2]?.map (·.val)).getD 0

/-- The fields of ZONE at the indexes 0 to 11: the zone, and the valve output of the same number (R189). -/
def zoneField (c : ZoneSettings) (r : Zone) (v : Valve) : Nat → Option Field
  | 1 => some ⟨1, .w, zoneTypeCode c.type⟩
  | 2 => some ⟨1, .w, flagCode c.enable⟩
  | 3 => some ⟨3, .w, bindingValue c.binding⟩
  | 4 => some ⟨1, .w, c.baseLevel⟩
  | 5 => some ⟨2, .w, c.frostFloor⟩
  | 6 => some ⟨1, .w, (c.output.map (·.val)).getD 255⟩
  | 7 => some ⟨2, .w, c.holdTime⟩
  | 8 => some ⟨1, .w, c.duty⟩
  | 9 => some ⟨2, .w, c.boostPeriod⟩
  | 10 => some ⟨2, .w, c.limit⟩
  | 16 => some ⟨1, .r, demandCode r.demand⟩
  | 17 => some ⟨1, .r, flagCode r.heldCall⟩
  | 18 => some ⟨2, .r, timerValue 2 r.hold⟩
  | 19 => some ⟨1, .r, flagCode r.frost⟩
  | 20 => some ⟨2, .r, r.boost.getD 0⟩
  | 21 => some ⟨1, .r, r.level⟩
  | 22 => some ⟨1, .r, flagCode r.accepted⟩
  | 23 => some ⟨1, .r, flagCode r.deferred⟩
  | 24 => some ⟨2, .r, timerValue 2 r.priority⟩
  | 25 => some ⟨1, .r, flagCode r.spent⟩
  | 30 => some ⟨1, .r, valveCode v.state⟩
  | 31 => some ⟨1, .r, flagCode v.drive⟩
  | 32 => some ⟨1, .r, orOnes 1 (v.switch.map flagCode)⟩
  | _ => none

def commonField (s : State) : Nat → Option Field
  | 1 => some ⟨1, .w, s.settings.common.lowFloor⟩
  | 2 => some ⟨1, .w, s.settings.common.unknownFloor⟩
  | 3 => some ⟨2, .w, s.settings.common.travelTime⟩
  | 4 => some ⟨2, .w, s.settings.common.overrun⟩
  | 5 => some ⟨1, .r, s.settings.common.mgmtFloor⟩
  | 6 => some ⟨1, .r, s.zones.floor⟩
  | 7 => some ⟨2, .r, (acceptedSet s).toNat⟩
  | 8 => some ⟨1, .r, flagCode s.zones.demand⟩
  | 9 => some ⟨1, .r, flagCode s.monitor.pump.command⟩
  | 10 => some ⟨2, .r, timerValue 2 s.zones.overrun⟩
  | _ => none

/-- A temperature, 0x8000 while it is invalid, absent or unknown (R189, R190). -/
def temperatureValue (t : Option Int) : Nat := (t.map signed16).getD 0x8000

/-- The fields of ZONE at the indexes 101 to 130 (R189); boost seen of an absent record reads clear (R45). -/
def unitField (u : Option UnitRecord) : Nat → Option Field
  | 1 => some ⟨1, .r, orOnes 1 (u.map (flagCode ·.call))⟩
  | 2 => some ⟨2, .r, temperatureValue (u.bind (·.temperature))⟩
  | 3 => some ⟨2, .r, orOnes 2 (u.map (·.setpoint))⟩
  | 4 => some ⟨1, .r, (u.map (flagCode ·.boostSeen)).getD 0⟩
  | _ => none

def strapField (p : StrapPoint) : Nat → Option Field
  | 1 => some ⟨2, .w, p.height⟩
  | 2 => some ⟨2, .w, p.volume⟩
  | _ => none

/-- The seven gauge counts in the order of R133. -/
def gaugeList (c : GaugeCounts) : List Nat :=
  [c.noEcho, c.implausible, c.weakEcho, c.discarded, c.lowEntries, c.emptyEntries, c.unknownEntries]

/-- The TANK table (section 10.8). Field 29, the age of the sender temperature, shows the running count also while the
temperature is unknown, from 0 at power-on (R123, log entry 18). -/
def tankField (s : State) : Nat → Option Field
  | 1 => some ⟨2, .w, s.settings.tank.height⟩
  | 2 => some ⟨1, .w, s.settings.tank.pointCount⟩
  | 3 => some ⟨2, .w, s.settings.tank.jumpLimit⟩
  | 4 => some ⟨4, .w, s.settings.tank.staleLimit⟩
  | 5 => some ⟨2, .w, s.settings.tank.reserve⟩
  | 6 => some ⟨2, .w, s.settings.tank.cutout⟩
  | 7 => some ⟨2, .w, s.settings.accounts.nozzleRate⟩
  | 8 => some ⟨2, .w, s.settings.accounts.deliveryThreshold⟩
  | 9 => some ⟨2, .w, s.settings.accounts.leakThreshold⟩
  | 16 => some ⟨1, .r, flagCode s.tank.valid⟩
  | 17 => some ⟨1, .r, tankCode s.tank.state⟩
  | 18 => some ⟨2, .r, orOnes 2 s.tank.volume⟩
  | 19 => some ⟨2, .r, orOnes 2 (medianOf s.tank.window)⟩
  | 20 => some ⟨1, .r, s.tank.window.length⟩
  | 26 => some ⟨2, .r, orOnes 2 s.tank.pendingSlot⟩
  | 27 => some ⟨4, .r, timerValue 4 s.tank.stale⟩
  | 28 => some ⟨2, .r, temperatureValue s.tank.temperature⟩
  | 29 => some ⟨2, .r, s.tank.tempAge⟩
  | n =>
    if 21 ≤ n ∧ n ≤ 25 then some ⟨2, .r, memberValue 2 s.tank.window (n - 21)⟩
    else if 30 ≤ n ∧ n ≤ 36 then some ⟨2, .r, (gaugeList s.tank.counts).getD (n - 30) 0⟩
    else none

def burnerField (s : State) : Nat → Option Field
  | 1 => some ⟨1, .w, s.settings.burner.startsPerHour⟩
  | 2 => some ⟨2, .w, signed16 s.settings.burner.preheatThreshold⟩
  | 3 => some ⟨2, .w, s.settings.burner.preheatTime⟩
  | 4 => some ⟨1, .w, s.settings.burner.responseLimit⟩
  | 5 => some ⟨1, .w, s.settings.burner.provingTime⟩
  | 6 => some ⟨1, .w, s.settings.burner.slowLimit⟩
  | 7 => some ⟨2, .w, s.settings.burner.minimumRun⟩
  | 8 => some ⟨1, .w, s.settings.sampleInterval⟩
  | 16 => some ⟨1, .r, burnerCode s.burner.state⟩
  | 17 => some ⟨1, .r, flagCode s.burner.preheatChosen⟩
  | 18 => some ⟨1, .r, s.burner.callClock⟩
  | 19 => some ⟨2, .r, orOnes 2 s.burner.latency⟩
  | 20 => some ⟨1, .r, flagCode s.burner.run⟩
  | 21 => some ⟨1, .r, s.burner.startTimes.length⟩
  | n => if 22 ≤ n ∧ n ≤ 33 then some ⟨2, .r, min (s.burner.startTimes.getD (n - 22) 0) max16⟩ else none

/-- The remaining time of the cool-down, release wait, observe limit or service wait, whichever runs (R190). -/
def recoveryTimer (r : Recovery) : Timer := r.coolDown.or (r.release.or (r.observe.or r.service))

def recoveryField (s : State) : Nat → Option Field
  | 1 => some ⟨1, .g, s.settings.recovery.attempts⟩
  | 2 => some ⟨1, .g, s.settings.recovery.windowBudget⟩
  | 3 => some ⟨2, .g, s.settings.recovery.coolDown⟩
  | 16 => some ⟨1, .r, recoveryCode s.recovery.state⟩
  | 17 => some ⟨1, .r, flagCode s.recovery.lockout⟩
  | 18 => some ⟨1, .r, flagCode s.monitor.reset.command⟩
  | 19 => some ⟨1, .r, flagCode s.recovery.hardLatch⟩
  | 20 => some ⟨1, .r, flagCode s.recovery.suspend⟩
  | 21 => some ⟨4, .r, timerValue 4 (recoveryTimer s.recovery)⟩
  | 22 => some ⟨2, .r, timerValue 2 s.recovery.window⟩
  | 23 => some ⟨1, .r, s.recovery.resetTimes.length⟩
  | 30 => some ⟨1, .r, s.recovery.records.length⟩
  | n => if 24 ≤ n ∧ n ≤ 29 then some ⟨4, .r, memberValue 4 s.recovery.resetTimes (n - 24)⟩ else none

def alarmUnitField (a : AlarmUnit) : Nat → Option Field
  | 1 => some ⟨1, .r, a.waiting.length⟩
  | 2 => some ⟨1, .r, a.sendTimes.length⟩
  | 7 => some ⟨1, .r, flagCode a.due⟩
  | 8 => some ⟨1, .r, timerValue 1 a.spacing⟩
  | 9 => some ⟨1, .r, timerValue 1 a.periodic⟩
  | n => if 3 ≤ n ∧ n ≤ 6 then some ⟨1, .r, memberValue 1 a.sendTimes (n - 3)⟩ else none

/-- The place of a kind in the pending set, and its entry. -/
def placeOf (k : AlarmKind) : List AlarmEntry → Nat → Option (Nat × AlarmEntry)
  | [], _ => none
  | e :: l, n => if e.kind = k then some (n, e) else placeOf k l (n + 1)

def alarmKindField (s : State) (k : AlarmKind) (n : Nat) : Option Field :=
  let place := placeOf k s.alarms.waiting 0
  match n with
  | 1 => some ⟨1, if isForced k then .r else .w, flagCode (enableOf s.settings.alarms k)⟩
  | 2 => some ⟨1, .r, flagCode place.isSome⟩
  | 3 => some ⟨1, .r, orOnes 1 (place.map (·.1))⟩
  | 4 => some ⟨1, .r, (place.map (·.2.count)).getD 0⟩
  | 5 => some ⟨3, .r, orOnes 3 (place.map (·.2.detail.toNat))⟩
  | _ => none

def relayField (x : RelayState) : Nat → Option Field
  | 1 => some ⟨1, .r, flagCode x.drive⟩
  | 2 => some ⟨1, .r, flagCode x.sense⟩
  | 3 => some ⟨1, .r, phaseCode x.phase⟩
  | 4 => some ⟨1, .r, flagCode x.fault⟩
  | _ => none

/-- The fields of a lockout record (R191): the opened day reads 0 under the marker. -/
def recordField (r : LockoutRecord) : Nat → Option Field
  | 1 => some ⟨2, .r, r.number⟩
  | 2 => some ⟨2, .r, (r.opened.map (·.1)).getD 0⟩
  | 3 => some ⟨4, .r, stampTime r.opened⟩
  | 4 => some ⟨1, .r, burnerCode r.phase⟩
  | 5 => some ⟨2, .r, orOnes 2 r.sinceCall⟩
  | 6 => some ⟨1, .r, tankCode r.tank⟩
  | 7 => some ⟨2, .r, orOnes 2 r.volume⟩
  | 8 => some ⟨1, .r, flagCode r.leak⟩
  | 9 => some ⟨1, .r, causeCode r.cause⟩
  | 10 => some ⟨1, .r, flagCode r.fuelUnknown⟩
  | 11 => some ⟨1, .r, r.attempts⟩
  | 12 => some ⟨1, .r, r.failed⟩
  | 13 => some ⟨1, .r, flagCode r.hand⟩
  | 14 => some ⟨1, .r, outcomeCode r.outcome⟩
  | _ => none

/-- The fields of SAMPLE (R191): without a record, fields 3 to 12 read all ones. -/
def sampleField (m : Sampler) (n : Nat) : Option Field :=
  let of (size : Nat) (f : SampleRecord → Nat) : Option Field := some ⟨size, .r, orOnes size (m.record.map f)⟩
  match n with
  | 1 => some ⟨1, .r, samplePhaseCode m.phase⟩
  | 2 => some ⟨1, .r, m.count⟩
  | 3 => of 4 (·.number)
  | 4 => of 2 (stampDay ·.called)
  | 5 => of 4 (stampTime ·.called)
  | 6 => of 1 (flagCode ·.preheat)
  | 7 => of 2 (orOnes 2 ·.volume)
  | 8 => of 2 (·.accepted.toNat)
  | 9 => of 2 (orOnes 2 ·.latency)
  | 10 => of 2 (·.seconds)
  | 11 => of 1 (·.flameOuts)
  | 12 => of 1 fun r => orOnes 1 (r.endCause.map endCauseCode)
  | _ => none

def runCounterField (c : RunCounters) : Nat → Option Field
  | 1 => some ⟨4, .r, c.starts⟩
  | 2 => some ⟨4, .r, c.firing⟩
  | 3 => some ⟨2, .r, c.lockouts⟩
  | 4 => some ⟨2, .r, c.autoResets⟩
  | 5 => some ⟨2, .r, c.flameOuts⟩
  | 6 => some ⟨2, .r, c.slowStarts⟩
  | 7 => some ⟨2, .r, c.noResponse⟩
  | _ => none

/-- The seven line counts of a segment in the order of R18. -/
def lineField (c : LineCounts) : Nat → Option Field
  | 1 => some ⟨2, .r, c.checkErrors⟩
  | 2 => some ⟨2, .r, c.malformed⟩
  | 3 => some ⟨2, .r, c.rejects⟩
  | 4 => some ⟨2, .r, c.duplicates⟩
  | 5 => some ⟨2, .r, c.retries⟩
  | 6 => some ⟨2, .r, c.undelivered⟩
  | 7 => some ⟨2, .r, c.dropped⟩
  | _ => none

def stationCountField (t : StationTable) : Nat → Option Field
  | 1 => some ⟨2, .r, t.moves⟩
  | 2 => some ⟨2, .r, t.conflicts⟩
  | _ => none

def partCountField (s : State) : Nat → Option Field
  | 1 => some ⟨4, .r, s.time.timeOfDay⟩
  | 2 => some ⟨2, .r, s.time.day⟩
  | 3 => some ⟨1, .r, flagCode s.time.unset⟩
  | 4 => some ⟨1, .r, flagCode s.mgmt.service⟩
  | 5 => some ⟨1, .r, flagCode s.mgmt.hand.isSome⟩
  | 6 => some ⟨2, .r, s.mgmt.handled⟩
  | _ => none

/-- The store's state as COUNTERS shows it (R191). -/
def activityCode : StoreActivity → Nat
  | .idle => 0
  | .savingSettings _ => 1
  | .savingRunning _ => 2

def storeField (t : Store) : Nat → Option Field
  | 1 => some ⟨1, .r, activityCode t.activity⟩
  | 2 => some ⟨1, .r, flagCode t.settingsPending⟩
  | 3 => some ⟨1, .r, flagCode t.runningPending⟩
  | 4 => some ⟨1, .r, flagCode t.settingsFailed⟩
  | 5 => some ⟨1, .r, flagCode t.runningFailed⟩
  | _ => none

def accountField (s : State) : Nat → Option Field
  | 1 => some ⟨2, .r, s.accounts.residue⟩
  | 2 => some ⟨4, .r, s.accounts.burned⟩
  | 3 => some ⟨2, .r, orOnes 2 s.accounts.reference⟩
  | 4 => some ⟨2, .r, orOnes 2 (bookVolume s.accounts)⟩
  | 5 => some ⟨1, .r, flagCode s.accounts.reference.isNone⟩
  | 6 => some ⟨2, .r, timerValue 2 s.accounts.spacing⟩
  | 7 => some ⟨1, .r, s.accounts.strikes⟩
  | 8 => some ⟨1, .r, flagCode s.accounts.leak⟩
  | 9 => some ⟨1, .r, flagCode s.accounts.lastDelivery.isSome⟩
  | 10 => some ⟨2, .r, orOnes 2 (s.accounts.lastDelivery.map (stampDay ·.stamp))⟩
  | 11 => some ⟨4, .r, orOnes 4 (s.accounts.lastDelivery.map (stampTime ·.stamp))⟩
  | 12 => some ⟨2, .r, orOnes 2 (s.accounts.lastDelivery.map (·.added))⟩
  | 13 => some ⟨2, .r, orOnes 2 (s.accounts.lastDelivery.map (·.volume))⟩
  | 14 => some ⟨4, .r, s.accounts.tally⟩
  | 15 => some ⟨1, .r, s.accounts.ring.length⟩
  | 16 => some ⟨4, .r, ringSum s.accounts⟩
  | 24 => some ⟨2, .r, orOnes 2 (daysRemaining s)⟩
  | n => if 17 ≤ n ∧ n ≤ 23 then some ⟨2, .r, memberValue 2 s.accounts.ring (n - 17)⟩ else none

/-- A row of a table, as a function of the field number; or why there is none (R181). -/
def rowOf (s : State) (table index : Nat) : Except Result (Nat → Option Field) :=
  match table with
  | 1 => if h : index < 31 then .ok (stationField s ⟨index, h⟩) else .error .badIndex
  | 2 => if h : index < 16 then .ok (ruleField s.settings.rules[index]) else .error .badIndex
  | 3 =>
    if h : index < 12 then .ok (zoneField (s.zoneCfg ⟨index, h⟩) (s.zone ⟨index, h⟩) (s.valve ⟨index, h⟩))
    else if index = 12 then .ok (commonField s)
    else if h : 101 ≤ index ∧ index ≤ 130 then .ok (unitField (s.unitRecord ⟨index - 100, by omega⟩))
    else .error .badIndex
  | 4 => if h : index < 16 then .ok (strapField s.settings.tank.strap[index]) else .error .badIndex
  | 5 => if index = 0 then .ok (tankField s) else .error .badIndex
  | 6 => if index = 0 then .ok (burnerField s) else .error .badIndex
  | 7 => if index = 0 then .ok (recoveryField s) else .error .badIndex
  | 8 =>
    if index = 0 then .ok (alarmUnitField s.alarms)
    else
      match alarmOfCode index, index with
      | some k, _ => .ok (alarmKindField s k)
      | none, 20 => .ok (relayField s.monitor.burner)
      | none, 21 => .ok (relayField s.monitor.reset)
      | none, 22 => .ok (relayField s.monitor.pump)
      | none, 23 => .ok (relayField s.monitor.preheat)
      | none, _ => .error .badIndex
  | 9 =>
    match s.recovery.records[index]? with
    | some r => .ok (recordField r)
    | none => .error .badIndex
  | 10 => if index = 0 then .ok (sampleField s.sampler) else .error .badIndex
  | 11 =>
    match index with
    | 0 => .ok (runCounterField s.sampler.counters)
    | 1 => .ok (lineField s.portA.counts)
    | 2 => .ok (lineField s.portB.counts)
    | 3 => .ok (stationCountField s.table)
    | 4 => .ok (partCountField s)
    | 5 => .ok (storeField s.store)
    | _ => .error .badIndex
  | 12 => if index = 0 then .ok (accountField s) else .error .badIndex
  | _ => .error .badTable

/-- A field looked up (R181): BAD_TABLE, BAD_INDEX or BAD_FIELD where there is none. -/
def fieldOf (s : State) (table index field : Nat) : Except Result Field :=
  match rowOf s table index with
  | .error r => .error r
  | .ok row =>
    match row field with
    | none => .error .badField
    | some f => .ok f

/-! ## Writing (R182, tests 5 to 7) -/

/-- What a write of a value comes to: refused with BAD_VALUE, or written, clamped or not. -/
inductive Written where
  | refused
  | written (clamped : Bool) (s : State)
  deriving DecidableEq, Repr

/-- A quantity, clamped to the nearer end of its range. -/
def putQuantity (lo hi v : Nat) (f : Nat → State) : Written :=
  .written (clamp lo hi v != v) (f (clamp lo hi v))

/-- A quantity of two bytes that is signed, as temperatures are (spec/00 section 5.2), clamped to the nearer end of its
range. -/
def putSigned (lo hi : Int) (v : Nat) (f : Int → State) : Written :=
  let i := (BitVec.ofNat 16 v).toInt
  .written (clampInt lo hi i != i) (f (clampInt lo hi i))

/-- A value that must be in a set. -/
def putCode {α : Type} (c : Option α) (f : α → State) : Written :=
  match c with
  | none => .refused
  | some x => .written false (f x)

/-- A write of one field of a station entry 1 to 30 (R40). -/
def putStation (a : Addr) (field v : Nat) (s : State) : Written :=
  let e := s.station a
  match field with
  | 1 => putCode (classOfCode v) fun c => writeClass c a s
  | 3 => putCode ((segmentOfCode v).filter fun g => !(e.pinned && g.isNone)) fun g =>
      s.setStation a { e with segment := g }
  | 4 => putCode ((flagOfCode v).filter fun b => !(b && e.segment.isNone)) fun b =>
      s.setStation a { e with pinned := b }
  | 7 => putQuantity 60 65535 v fun n => s.setStation a { e with silence := n }
  | 12 => putCode (flagOfCode v) fun b => s.setStation a { e with watched := b }
  | 13 => putCode (flagOfCode v) fun b => writePoll b a s
  | 20 => putQuantity 60 3600 v fun n => writePeriod n s
  | _ => .refused

/-- An address value or mask of a rule: above 31 it is BAD_VALUE (R189). -/
def fiveBits (v : Nat) : Option (BitVec 5) := if v ≤ 31 then some (BitVec.ofNat 5 v) else none

/-- A write of one field of a forwarding rule (R34). -/
def putRule (i : Fin 16) (field v : Nat) (s : State) : Written :=
  let r := s.settings.rules[i]
  let set (r : ForwardRule) : State := { s with settings := { s.settings with rules := upd s.settings.rules i r } }
  match field with
  | 1 => putCode (flagOfCode v) fun b => set { r with enable := b }
  | 2 => putCode (fiveBits v) fun x => set { r with sourceValue := x }
  | 3 => putCode (fiveBits v) fun x => set { r with sourceMask := x }
  | 4 => putCode (fiveBits v) fun x => set { r with destValue := x }
  | 5 => putCode (fiveBits v) fun x => set { r with destMask := x }
  | 6 => .written false (set { r with kinds := BitVec.ofNat 16 v })
  | 7 => putCode (ingressOfCode v) fun x => set { r with ingress := x }
  | 8 => putCode (actionOfCode v) fun x => set { r with action := x }
  | _ => .refused

/-- A binding list from its three bytes: no address, a 0 before an address, an address twice or one above 30 is
BAD_VALUE (R43, R189). -/
def bindingOf (v : Nat) : Option (List Addr) :=
  let l := [v / 65536 % 256, v / 256 % 256, v % 256]
  let used := l.takeWhile (· != 0)
  if used = [] ∨ ¬ (l.drop used.length).all (· == 0) ∨ ¬ used.all (· ≤ 30) ∨ ¬ used.Nodup then none
  else some (used.filterMap fun n => if h : n < 31 then some ⟨n, h⟩ else none)

/-- A valve output from its byte: 255 for none, and no number from 12 to 254 (R189). -/
def outputOf (v : Nat) : Option (Option OutputId) :=
  if v = 255 then some none else if h : v < 12 then some (some ⟨v, h⟩) else none

/-- Whether a zone may be given an output: no other zone holds it (R43). -/
def mayHold (s : State) (z : ZoneId) : Option OutputId → Bool
  | none => true
  | some o => (places 12).all fun y => y == z || (s.zoneCfg y).output != some o

/-- A write of one setting of a zone (R43, R68, R182). -/
def putZone (z : ZoneId) (field v : Nat) (s : State) : Written :=
  match field with
  | 1 => putCode (zoneTypeOfCode v) fun t => writePrioritySetting (fun c => { c with type := t }) z s
  | 2 => putCode (flagOfCode v) fun b => writeEnable b z s
  | 3 => putCode (bindingOf v) fun l => writeZone (fun c => { c with binding := l }) z s
  | 4 => putQuantity 1 6 v fun n => writeZone (fun c => { c with baseLevel := n }) z s
  | 5 => putSigned 0 150 v fun n => writeZone (fun c => { c with frostFloor := n.toNat }) z s
  | 6 => putCode ((outputOf v).filter (mayHold s z)) fun o => writeOutput o z s
  | 7 => putQuantity 0 7200 v fun n => writeZone (fun c => { c with holdTime := n }) z s
  | 8 => putQuantity 0 60 v fun n => writeZone (fun c => { c with duty := n }) z s
  | 9 => putQuantity 600 14400 v fun n => writeZone (fun c => { c with boostPeriod := n }) z s
  | 10 => putQuantity 0 7200 v fun n => writePrioritySetting (fun c => { c with limit := n }) z s
  | _ => .refused

def State.setCommon (s : State) (c : CommonSettings) : State := { s with settings := { s.settings with common := c } }

/-- A write of one of the common settings (R43, R55, R68). -/
def putCommon (field v : Nat) (s : State) : Written :=
  let c := s.settings.common
  match field with
  | 1 => putQuantity 0 7 v fun n => recomputeFloor (s.setCommon { c with lowFloor := n })
  | 2 => putQuantity 0 7 v fun n => recomputeFloor (s.setCommon { c with unknownFloor := n })
  | 3 => putQuantity 10 300 v fun n => s.setCommon { c with travelTime := n }
  | 4 => putQuantity 0 900 v fun n => s.setCommon { c with overrun := n }
  | _ => .refused

/-- A write of one field of a strapping slot (R120). -/
def putStrap (i : Fin 16) (field v : Nat) (s : State) : Written :=
  match field with
  | 1 => putQuantity 0 4000 v fun n => writeSlot i (fun p => { p with height := n }) s
  | 2 => putQuantity 0 65534 v fun n => writeSlot i (fun p => { p with volume := n }) s
  | _ => .refused

def State.setAccountSettings (s : State) (a : AccountSettings) : State :=
  { s with settings := { s.settings with accounts := a } }

/-- A write of one setting of TANK (R119, R137). -/
def putTank (field v : Nat) (s : State) : Written :=
  let t := s.settings.tank
  let a := s.settings.accounts
  match field with
  | 1 => putQuantity 300 4000 v fun n => writeHeight n s
  | 2 => putQuantity 2 16 v fun n => writePointCount n s
  | 3 => putQuantity 20 1000 v fun n => s.setTank { t with jumpLimit := n }
  | 4 => putQuantity 600 86400 v fun n => s.setTank { t with staleLimit := n }
  | 5 => putQuantity 0 65534 v fun n => writeThreshold (fun t => { t with reserve := n }) s
  | 6 => putQuantity 0 65534 v fun n => writeThreshold (fun t => { t with cutout := n }) s
  | 7 => putQuantity 500 20000 v fun n => s.setAccountSettings { a with nozzleRate := n }
  | 8 => putQuantity 20 2000 v fun n => s.setAccountSettings { a with deliveryThreshold := n }
  | 9 => putQuantity 10 500 v fun n => s.setAccountSettings { a with leakThreshold := n }
  | _ => .refused

def State.setBurnerSettings (s : State) (b : BurnerSettings) : State :=
  { s with settings := { s.settings with burner := b } }

/-- A write of one setting of BURNER (R76, R160). -/
def putBurner (field v : Nat) (s : State) : Written :=
  let b := s.settings.burner
  match field with
  | 1 => putQuantity 1 12 v fun n => s.setBurnerSettings { b with startsPerHour := n }
  | 2 => putSigned (-200) 100 v fun n => s.setBurnerSettings { b with preheatThreshold := n }
  | 3 => putQuantity 0 600 v fun n => s.setBurnerSettings { b with preheatTime := n }
  | 4 => putQuantity 10 120 v fun n => s.setBurnerSettings { b with responseLimit := n }
  | 5 => putQuantity 20 120 v fun n => s.setBurnerSettings { b with provingTime := n }
  | 6 => putQuantity 20 255 v fun n => s.setBurnerSettings { b with slowLimit := n }
  | 7 => putQuantity 0 900 v fun n => s.setBurnerSettings { b with minimumRun := n }
  | 8 => putQuantity 0 255 v fun n => setSampleInterval n s
  | _ => .refused

def State.setRecoverySettings (s : State) (r : RecoverySettings) : State :=
  { s with settings := { s.settings with recovery := r } }

/-- A write of one setting of RECOVERY (R99). -/
def putRecovery (field v : Nat) (s : State) : Written :=
  let r := s.settings.recovery
  match field with
  | 1 => putQuantity 0 3 v fun n => s.setRecoverySettings { r with attempts := n }
  | 2 => putQuantity 0 6 v fun n => s.setRecoverySettings { r with windowBudget := n }
  | 3 => putQuantity 30 900 v fun n => s.setRecoverySettings { r with coolDown := n }
  | _ => .refused

/-- A write of the enable of an alarm kind (R169). -/
def putAlarm (k : AlarmKind) (v : Nat) (s : State) : Written :=
  putCode (flagOfCode v) fun b => { s with settings := { s.settings with alarms := setEnable s.settings.alarms b k } }

/-- A write of a value to a field that has passed the tests before it (R182). -/
def putField (table index field v : Nat) (s : State) : Written :=
  match table with
  | 1 => if h : index < 31 then putStation ⟨index, h⟩ field v s else .refused
  | 2 => if h : index < 16 then putRule ⟨index, h⟩ field v s else .refused
  | 3 => if h : index < 12 then putZone ⟨index, h⟩ field v s else putCommon field v s
  | 4 => if h : index < 16 then putStrap ⟨index, h⟩ field v s else .refused
  | 5 => putTank field v s
  | 6 => putBurner field v s
  | 7 => putRecovery field v s
  | 8 =>
    match alarmOfCode index with
    | some k => putAlarm k v s
    | none => .refused
  | _ => .refused

end Sys2Proof.Machine
end

