-- ==== Sys2Proof/Machine/Mgmt.lean ====
section
/-! DEFINITION. The management unit (spec/10): access, the request in hand, decoding, and the commands. -/

namespace Sys2Proof.Machine

/-! ## Access and rights (R178) -/

/-- The rights a station's request is given, or none when it fails the access test. -/
def rightsOf (s : State) (a : Addr) : Option Rights :=
  if s.mgmt.service then some .serviceTool
  else
    match (s.station a).cls with
    | .panel => some .panel
    | .serviceTool => some .serviceTool
    | .empty | .roomUnit | .tankSender | .other => none

/-! ## Command codes (R20, R180) -/

def codeRead : Byte := 1
def codeWrite : Byte := 2
def codeCommit : Byte := 3
def codeReload : Byte := 4
def codeSetFloor : Byte := 5
def codeSetTime : Byte := 6
def codeReleaseSample : Byte := 7
def codeAckLeak : Byte := 8
def codeClearHard : Byte := 9
def codeClearFault : Byte := 10
def codeClearCounters : Byte := 11
def codeForcePoll : Byte := 12
def codeStatusNow : Byte := 13

/-- The commands, by their codes. -/
inductive Command where
  | read | write | commit | reload | setFloor | setTime | releaseSample | ackLeak | clearHard | clearFault
  | clearCounters | forcePoll | statusNow
  deriving DecidableEq, Repr

/-- The command of a code, 1 to 13. -/
def commandOf (c : Byte) : Option Command :=
  [Command.read, .write, .commit, .reload, .setFloor, .setTime, .releaseSample, .ackLeak, .clearHard, .clearFault,
   .clearCounters, .forcePoll, .statusNow][c.toNat - 1]?.filter fun _ => c != 0

/-- The fewest and the most argument bytes of a command (R20). -/
def argumentBytes : Command → Nat × Nat
  | .read => (3, 3)
  | .write => (4, 7)
  | .setFloor | .forcePoll => (1, 1)
  | .setTime => (5, 5)
  | .commit | .reload | .releaseSample | .ackLeak | .clearHard | .clearFault | .clearCounters | .statusNow => (0, 0)

/-- The commands within PANEL rights (R180). -/
def panelMay : Command → Bool
  | .read | .setFloor | .setTime | .releaseSample | .ackLeak | .forcePoll | .statusNow => true
  | .write | .commit | .reload | .clearHard | .clearFault | .clearCounters => false

/-- The commands that need the SERVICE input closed (R180). -/
def needsService : Command → Bool
  | .clearHard | .clearFault => true
  | .read | .write | .commit | .reload | .setFloor | .setTime | .releaseSample | .ackLeak | .clearCounters | .forcePoll
  | .statusNow => false

/-- The commands that a busy store turns away (R180). -/
def needsIdleStore : Command → Bool
  | .reload | .clearHard | .clearFault => true
  | .read | .write | .commit | .setFloor | .setTime | .releaseSample | .ackLeak | .clearCounters | .forcePoll
  | .statusNow => false

/-- The tests of R180 before a command's own checks: the command to carry out, or the result that turns it away. -/
def decodeCommand (s : State) (rights : Rights) (code : Byte) (args : List Byte) : Except Result Command :=
  match commandOf code with
  | none => .error .badValue
  | some c =>
    if (argumentBytes c).2 < args.length then .error .badValue
    else if args.length < (argumentBytes c).1 then .error .badField
    else if rights = .panel ∧ ¬ panelMay c then .error .notAllowed
    else if needsService c ∧ ¬ s.mgmt.service then .error .serviceOpen
    else if needsIdleStore c ∧ storeBusy s then .error .busy
    else .ok c

/-! ## Carrying out (sections 10.4 to 10.7) -/

/-- What carrying out a command yields: the result, the reply data, and the state after it. -/
structure Answered where
  result : Result
  data   : List Byte := []
  state  : State
  deriving DecidableEq, Repr

/-- An argument byte as a number. -/
def argument (args : List Byte) (i : Nat) : Nat := (args.getD i 0).toNat

/-- Whether a read uses the free value of entry 0's poll countdown, which is then used up (log entry 6). -/
def usesFree (table index field : Nat) : Bool := table == 1 && index == 0 && field == 14

/-- READ_FIELD (R181). -/
def readAnswer (args : List Byte) (s : State) : Answered :=
  let t := argument args 0
  let i := argument args 1
  let n := argument args 2
  match fieldOf s t i n with
  | .error r => { result := r, state := s }
  | .ok f =>
    { result := .done, data := bytesOf f.size f.value
      state := if usesFree t i n then { s with free := s.free + 1 } else s }

/-- The tests 1 to 4 of a write, with the service input (R182): the field, or the result that refuses it. -/
def writable (s : State) (table index field : Nat) (value : List Byte) : Except Result Field :=
  match fieldOf s table index field with
  | .error r => .error r
  | .ok f =>
    if f.access = .r then .error .readOnly
    else if f.access = .g ∧ ¬ s.mgmt.service then .error .serviceOpen
    else if value.length ≠ f.size then .error .badValue
    else .ok f

/-- WRITE_FIELD (R182, R183). -/
def writeAnswer (args : List Byte) (s : State) : Answered :=
  let t := argument args 0
  let i := argument args 1
  let n := argument args 2
  let value := args.drop 3
  match writable s t i n value with
  | .error r => { result := r, state := s }
  | .ok _ =>
    match putField t i n (numberOf value) s with
    | .refused => { result := .badValue, state := s }
    | .written clamped s => { result := if clamped then .doneClamped else .done, state := s }

/-- SET_FLOOR (R186). -/
def setFloorAnswer (args : List Byte) (s : State) : Answered :=
  let v := argument args 0
  { result := if 7 < v then .doneClamped else .done
    state := recomputeFloor (s.setCommon { s.settings.common with mgmtFloor := min v 7 }) }

/-- SET_TIME (R186): both values are taken, TIME_UNSET is cleared, and every zone is re-evaluated. No midnight that is
still to be taken follows (log entry 4). -/
def setTimeAnswer (args : List Byte) (s : State) : Answered :=
  let t := numberOf (args.take 3)
  let s := { s with time :=
    { timeOfDay := min t (daySeconds - 1), day := numberOf (args.drop 3), unset := false, midnight := false } }
  { result := if daySeconds - 1 < t then .doneClamped else .done
    state := reevalWhere .other (fun _ => true) s }

/-- CLEAR_COUNTERS (R162): the line, station and gauge counts and three run counters. -/
def clearCounters (s : State) : State :=
  let s := s.countRun fun c => { c with flameOuts := 0, slowStarts := 0, noResponse := 0 }
  let s := s.countGauge fun _ => {}
  { s with
    portA := { s.portA with counts := {} }
    portB := { s.portB with counts := {} }
    table := { s.table with moves := 0, conflicts := 0 } }

/-- FORCE_POLL (R39, R187). -/
def forcePollAnswer (args : List Byte) (s : State) : Answered :=
  match addrOf (args.getD 0 0) with
  | none => { result := .badIndex, state := s }
  | some a => if a = 0 then { result := .badIndex, state := s } else { result := .done, state := forcePoll a s }

/-- A command carried out, once decoding has passed (R184 to R188). -/
def carryOut (c : Command) (args : List Byte) (s : State) : Answered :=
  match c with
  | .read => readAnswer args s
  | .write => writeAnswer args s
  | .commit => { result := .done, state := requestSettingsSave s }
  | .reload => { result := .done, state := reload s }
  | .setFloor => setFloorAnswer args s
  | .setTime => setTimeAnswer args s
  | .releaseSample => { result := .done, state := releaseSample s }
  | .ackLeak => { result := .done, state := acknowledgeLeak s }
  | .clearHard =>
    if s.recovery.state = .hard then { result := .done, state := clearHard s } else { result := .notHard, state := s }
  | .clearFault => { result := .done, state := clearFaults s }
  | .clearCounters => { result := .done, state := clearCounters s }
  | .forcePoll => forcePollAnswer args s
  | .statusNow => { result := .done, data := packedStatus s, state := s }

/-- Decoding and carrying out (R180): a request refused at any test changes nothing. -/
def answerRequest (rights : Rights) (code : Byte) (args : List Byte) (s : State) : Answered :=
  match decodeCommand s rights code args with
  | .error r => { result := r, state := s }
  | .ok c => carryOut c args s

/-! ## The request in hand (R179) -/

/-- The MGMT_REPLY of a request (R14, R20). -/
def replyFrame (req : Requester) (code : Byte) (a : Answered) : Frame :=
  buildFrame (BitVec.ofNat 8 req.station.val) kindReply req.seq
    (code :: BitVec.ofNat 8 (resultCode a.result) :: a.data)

/-- A request accepted by a free unit (R179): it becomes handling, the command is decoded and carried out, the request is
counted, and the reply is built. -/
def handleRequest (req : Requester) (rights : Rights) (code : Byte) (args : List Byte) (s : State) : State :=
  let hand : Hand := { requester := req, code := code, args := args, rights := rights, reply := none }
  let a := answerRequest rights code args { s with mgmt := { s.mgmt with hand := some hand } }
  let t := a.state
  { t with mgmt :=
    { t.mgmt with hand := some { hand with reply := some (replyFrame req code a) }, handled := inc16 t.mgmt.handled } }

/-- A request from a station, as it reaches the unit: accepted when the unit is free and the sender passes the access
test, and else without effect here. The port's answer to a refused one stands in Machine/Arrival.lean. -/
def request (req : Requester) (code : Byte) (args : List Byte) (s : State) : Host.Outcome State Fault Refusal :=
  whenPowered s fun s =>
    if req.station = 0 ∨ s.mgmt.hand.isSome then s
    else
      match rightsOf s req.station with
      | none => s
      | some rights => handleRequest req rights code args s

/-- REPLY_HAND_OVER (R15, R179): the reply goes to the reply slot of the port of the arrival segment once that is empty,
and the unit becomes free. -/
def execReplyHandOver (s : State) : Host.Outcome State Fault Refusal :=
  whenPowered s fun s =>
    match s.mgmt.hand with
    | none => s
    | some h =>
      let p := s.port h.requester.segment
      match h.reply, p.reply with
      | some f, none =>
        let s := s.setPort h.requester.segment { p with reply := some { frame := f } }
        { s with mgmt := { s.mgmt with hand := none } }
      | _, _ => s

/-- SERVICE_INPUT_CHANGE (R178): the counted value changes, for later requests. -/
def execServiceInputChange (closed : Bool) (s : State) : Host.Outcome State Fault Refusal :=
  whenPowered s fun s => { s with mgmt := { s.mgmt with service := closed } }

/-! ## The commands of the table that are requests -/

/-- The arguments of a READ_FIELD or WRITE_FIELD: table, index and field, then the value. -/
def fieldArgs (table index field : Nat) (value : List Byte) : List Byte :=
  BitVec.ofNat 8 table :: BitVec.ofNat 8 index :: BitVec.ofNat 8 field :: value

/-- A WRITE_FIELD request. -/
def writeRequest (req : Requester) (table index field : Nat) (value : List Byte) (s : State) :
    Host.Outcome State Fault Refusal :=
  request req codeWrite (fieldArgs table index field value) s

/-- UNKNOWN_COMMAND (R180): a request with any code; one that is not in the command table is answered BAD_VALUE. -/
def execUnknownCommand (req : Requester) (code : Byte) (args : List Byte) (s : State) :
    Host.Outcome State Fault Refusal :=
  request req code args s

/-- READ_FIELD (R181). -/
def execReadField (req : Requester) (table index field : Byte) (s : State) : Host.Outcome State Fault Refusal :=
  request req codeRead (fieldArgs table.toNat index.toNat field.toNat []) s

/-- WRITE_FIELD (R182). -/
def execWriteField (req : Requester) (table index field : Byte) (value : List Byte) (s : State) :
    Host.Outcome State Fault Refusal :=
  writeRequest req table.toNat index.toNat field.toNat value s

/-- WRITE_STATION_CLASS (R40): STATION field 1. -/
def execWriteStationClass (req : Requester) (a : Addr) (value : List Byte) (s : State) :
    Host.Outcome State Fault Refusal :=
  writeRequest req 1 a.val 1 value s

/-- The field of STATION that a segment write names. -/
def segmentFieldNumber : SegmentField → Nat
  | .segment => 3
  | .pinned => 4

/-- WRITE_STATION_SEGMENT (R40): STATION fields 3 and 4. -/
def execWriteStationSegment (req : Requester) (a : Addr) (which : SegmentField) (value : List Byte) (s : State) :
    Host.Outcome State Fault Refusal :=
  writeRequest req 1 a.val (segmentFieldNumber which) value s

/-- WRITE_POLL_FLAG (R36, R40): STATION field 13. -/
def execWritePollFlag (req : Requester) (a : Addr) (value : List Byte) (s : State) :
    Host.Outcome State Fault Refusal :=
  writeRequest req 1 a.val 13 value s

/-- WRITE_POLL_PERIOD (R36): STATION field 20. -/
def execWritePollPeriod (req : Requester) (a : Addr) (value : List Byte) (s : State) :
    Host.Outcome State Fault Refusal :=
  writeRequest req 1 a.val 20 value s

/-- WRITE_ZONE_ENABLE (R54): ZONE field 2. -/
def execWriteZoneEnable (req : Requester) (z : ZoneId) (value : List Byte) (s : State) :
    Host.Outcome State Fault Refusal :=
  writeRequest req 3 z.val 2 value s

/-- WRITE_VALVE_OUTPUT (R63): ZONE field 6. -/
def execWriteValveOutput (req : Requester) (z : ZoneId) (value : List Byte) (s : State) :
    Host.Outcome State Fault Refusal :=
  writeRequest req 3 z.val 6 value s

/-- The field of ZONE that a zone setting names. -/
def zoneSettingNumber : ZoneSetting → Nat
  | .type => 1
  | .bindingList => 3
  | .baseLevel => 4
  | .frostFloor => 5
  | .duty => 8
  | .limit => 10

/-- WRITE_ZONE_SETTING (R57, R68): ZONE fields 1, 3, 4, 5, 8 and 10. -/
def execWriteZoneSetting (req : Requester) (z : ZoneId) (setting : ZoneSetting) (value : List Byte) (s : State) :
    Host.Outcome State Fault Refusal :=
  writeRequest req 3 z.val (zoneSettingNumber setting) value s

/-- The field of ZONE index 12 that a floor setting names. -/
def floorSettingNumber : FloorSetting → Nat
  | .low => 1
  | .unknown => 2

/-- WRITE_FLOOR_SETTING (R55): ZONE index 12, fields 1 and 2. -/
def execWriteFloorSetting (req : Requester) (which : FloorSetting) (value : List Byte) (s : State) :
    Host.Outcome State Fault Refusal :=
  writeRequest req 3 12 (floorSettingNumber which) value s

/-- WRITE_TANK_HEIGHT (R134): TANK field 1. -/
def execWriteTankHeight (req : Requester) (value : List Byte) (s : State) : Host.Outcome State Fault Refusal :=
  writeRequest req 5 0 1 value s

/-- WRITE_STRAPPING (R120, R121): STRAP fields 1 and 2, and TANK field 2. -/
def execWriteStrapping (req : Requester) (target : StrapTarget) (value : List Byte) (s : State) :
    Host.Outcome State Fault Refusal :=
  match target with
  | .height i => writeRequest req 4 i.val 1 value s
  | .volume i => writeRequest req 4 i.val 2 value s
  | .pointCount => writeRequest req 5 0 2 value s

/-- The field of TANK that a threshold names. -/
def thresholdNumber : Threshold → Nat
  | .reserve => 5
  | .cutout => 6

/-- WRITE_RESERVE_CUTOUT (R132): TANK fields 5 and 6. -/
def execWriteReserveCutout (req : Requester) (which : Threshold) (value : List Byte) (s : State) :
    Host.Outcome State Fault Refusal :=
  writeRequest req 5 0 (thresholdNumber which) value s

/-- WRITE_NOZZLE_RATE (R139): TANK field 7. -/
def execWriteNozzleRate (req : Requester) (value : List Byte) (s : State) : Host.Outcome State Fault Refusal :=
  writeRequest req 5 0 7 value s

/-- WRITE_SAMPLE_INTERVAL (R160): BURNER field 8. -/
def execWriteSampleInterval (req : Requester) (value : List Byte) (s : State) : Host.Outcome State Fault Refusal :=
  writeRequest req 6 0 8 value s

/-- COMMIT (R184). -/
def execCommit (req : Requester) (s : State) : Host.Outcome State Fault Refusal := request req codeCommit [] s

/-- RELOAD (R184, R197). -/
def execReload (req : Requester) (s : State) : Host.Outcome State Fault Refusal := request req codeReload [] s

/-- SET_FLOOR (R186). -/
def execSetFloor (req : Requester) (floor : Byte) (s : State) : Host.Outcome State Fault Refusal :=
  request req codeSetFloor [floor] s

/-- SET_TIME (R186): the time of day in three bytes, the day number in two. -/
def execSetTime (req : Requester) (timeOfDay : BitVec 24) (day : Half) (s : State) :
    Host.Outcome State Fault Refusal :=
  request req codeSetTime (bytesOf 3 timeOfDay.toNat ++ bytes2 day.toNat) s

/-- RELEASE_SAMPLE (R159). -/
def execReleaseSample (req : Requester) (s : State) : Host.Outcome State Fault Refusal :=
  request req codeReleaseSample [] s

/-- ACK_LEAK (R146). -/
def execAckLeak (req : Requester) (s : State) : Host.Outcome State Fault Refusal := request req codeAckLeak [] s

/-- CLEAR_HARD (R114). -/
def execClearHard (req : Requester) (s : State) : Host.Outcome State Fault Refusal := request req codeClearHard [] s

/-- CLEAR_FAULT (R168). -/
def execClearFault (req : Requester) (s : State) : Host.Outcome State Fault Refusal := request req codeClearFault [] s

/-- CLEAR_COUNTERS (R162). -/
def execClearCounters (req : Requester) (s : State) : Host.Outcome State Fault Refusal :=
  request req codeClearCounters [] s

/-- FORCE_POLL (R39). -/
def execForcePoll (req : Requester) (address : Byte) (s : State) : Host.Outcome State Fault Refusal :=
  request req codeForcePoll [address] s

/-- STATUS_NOW (R188). -/
def execStatusNow (req : Requester) (s : State) : Host.Outcome State Fault Refusal := request req codeStatusNow [] s

end Sys2Proof.Machine
end

