-- ==== Sys2Proof/Machine/Arrival.lean ====
section
/-! DEFINITION. The arrival of a complete frame (spec/01, sections 1.1 to 1.4, and spec/02, sections 2.2 to 2.5): its
checks, the station table's five steps, the port's answer, the hand-over to an acting block, and the crossing. -/

namespace Sys2Proof.Machine

/-! ## The checks of a port (R3, R4) -/

/-- Whether a frame that passed its check is malformed (R4). A source above 31 counts as malformed too (log entry 13). -/
def isMalformed (f : Frame) : Bool :=
  f.source == 0 || 31 ≤ f.source.toNat || 31 < f.dest.toNat
    || ((f.kind == kindDemand || f.kind == kindLevel) && f.payload.length != 5)
    || (f.kind == kindRequest && f.dest == 0 && f.payload.length == 0)

/-- Whether a destination is 0 to 30 and not a station recorded on the arrival segment (R4, R5). -/
def partAnswers (s : State) (seg : Segment) (f : Frame) : Bool :=
  match addrOf f.dest with
  | none => false
  | some d => !recordedOn s d seg

/-- An answer given and counted on its segment: a REJECT or a RETRY is, an ACK is not (R5). -/
def countAnswer (seg : Segment) (answer : Option Answer) (s : State) : State :=
  match answer with
  | some .reject => s.countLine seg fun c => { c with rejects := inc16 c.rejects }
  | some .retry => s.countLine seg fun c => { c with retries := inc16 c.retries }
  | some .ack | none => s

/-- A malformed frame (R4). -/
def takeMalformed (seg : Segment) (f : Frame) (s : State) : State × Option Answer :=
  let answer := if 31 < f.dest.toNat ∨ partAnswers s seg f then some Answer.reject else none
  (s.countLine seg fun c => { c with malformed := inc16 c.malformed }, answer)

/-! ## The five steps of the station table (R24) -/

/-- Whether an entry is pinned to the segment opposite an arrival (R25). -/
def conflicts (seg : Segment) (e : Station) : Bool := e.pinned && e.segment == some (otherSegment seg)

/-- A segment conflict (R25): counted, alarmed, and answered where the part is the answering party. -/
def takeConflict (seg : Segment) (a : Addr) (f : Frame) (s : State) : State × Option Answer :=
  let answer := if partAnswers s seg f then some Answer.reject else none
  let s := { s with table := { s.table with conflicts := inc16 s.table.conflicts } }
  (raise .segmentConflict (detailBytes a.val (segmentCode (some seg)) 0) s, answer)

/-- Segment learning (R26): an unpinned source takes the arrival segment; a change between A and B is a move. -/
def learnSegment (seg : Segment) (a : Addr) (s : State) : State :=
  let e := s.station a
  if e.pinned then s
  else
    let s := if e.segment = some (otherSegment seg) then
        { s with table := { s.table with moves := inc16 s.table.moves } }
      else s
    s.setStation a { e with segment := some seg }

/-- Whether a frame repeats its source's last accepted one within the duplicate window (R27). -/
def isDuplicate (f : Frame) (e : Station) : Bool :=
  match e.last with
  | none => false
  | some l => l.kind == f.kind && l.seq == f.seq && l.window.isSome

/-- An entry after acceptance and class learning of a frame (R28, R29). -/
def acceptedStation (pollPeriod : Nat) (f : Frame) (e : Station) : Station :=
  let e := { e with
    last := some { kind := f.kind, seq := f.seq, window := startTimer duplicateWindow }
    age := 0, presence := .present, marks := 0, heard := inc16 e.heard, countdown := pollPeriod
    batteryLow := if f.kind = kindDemand then demandBatteryLow f else e.batteryLow }
  if e.cls = .empty then
    { e with cls := learnedClass f.kind, configured := false, silence := silenceDefault e.silence (learnedClass f.kind) }
  else e

/-- A DEMAND handed to the zone unit (R45): the boost edge is tested before the record is filled, and the zones that bind
the source are re-evaluated once. -/
def takeDemand (a : Addr) (f : Frame) (s : State) : State :=
  let r := demandRecord f
  let edge := boostEdge (s.unitRecord a) r
  reevalBinding (.demandFrame edge) a (s.setUnit a (some r))

/-- Whether an accepted frame is handed to the zone unit (R30). -/
def goesToZones (f : Frame) (c : StationClass) : Bool := f.kind == kindDemand && c == .roomUnit

/-- Whether an accepted frame is handed to the tank gauge (R30). -/
def goesToTank (f : Frame) (c : StationClass) : Bool := f.kind == kindLevel && c == .tankSender

/-- Whether an accepted frame is handed to the management unit (R30). -/
def goesToMgmt (f : Frame) : Bool := f.kind == kindRequest && f.dest == 0

/-- The requester of an MGMT_REQUEST frame (R179). -/
def requesterOf (seg : Segment) (a : Addr) (f : Frame) : Requester := { station := a, segment := seg, seq := f.seq }

/-- The hand-over of an accepted frame to the block its kind, destination and source class call for (R30). A class change
makes the unit record absent first (R45); a change of presence or class re-evaluates the zones of the source (R44), which
a DEMAND does with its own re-evaluation, and before a LEVEL or a request is handed over: DESIGN CHOICE (log entry 41). -/
def handOver (seg : Segment) (a : Addr) (f : Frame) (old : Station) (s : State) : State :=
  let e := s.station a
  let s := if e.cls ≠ old.cls then s.setUnit a none else s
  if goesToZones f e.cls then takeDemand a f s
  else
    let s := if e.cls ≠ old.cls ∨ e.presence ≠ old.presence then reevalBinding .other a s else s
    if goesToTank f e.cls then takeLevel a.val f s
    else if goesToMgmt f then
      match rightsOf s a with
      | none => s
      | some rights => handleRequest (requesterOf seg a f) rights (payloadByte f 0) (f.payload.drop 1) s
    else s

/-- Acceptance, class learning, the completion of a poll, and the hand-over (R28 to R30, R38). -/
def accept (seg : Segment) (a : Addr) (f : Frame) (s : State) : State :=
  let old := s.station a
  let s := s.setStation a (acceptedStation s.settings.pollPeriod f old)
  let s := if f.dest = 0 then { s with table := { s.table with ownHeard := inc16 s.table.ownHeard } } else s
  handOver seg a f old (completePoll a s)

/-! ## The port's answer and the crossing (R6 to R9) -/

/-- A frame addressed to 0 that is neither a conflict nor a duplicate (R6, tests 3 to 5). -/
def takeOwn (seg : Segment) (a : Addr) (f : Frame) (s : State) : State × Option Answer :=
  if f.kind = kindRequest ∧ (rightsOf s a).isNone then (s, some .reject)
  else if f.kind = kindRequest ∧ s.mgmt.hand.isSome then (s, some .retry)
  else (accept seg a f s, some .ack)

/-- A frame to a station not recorded on the arrival segment, neither a conflict nor a duplicate (R7, tests 3 to 5).
`cross` is the forwarding decision. -/
def takeAcross (seg : Segment) (a : Addr) (f : Frame) (cross : Bool) (s : State) : State × Option Answer :=
  if !cross then (accept seg a f s, none)
  else if queueFull s seg then (s, some .retry)
  else (enqueue seg f (accept seg a f s), some .ack)

/-- A broadcast, or a frame to a station recorded on the arrival segment (R8, R9): never answered, and crossing if there is
room. -/
def takeUnanswered (seg : Segment) (a : Addr) (f : Frame) (cross : Bool) (s : State) : State × Option Answer :=
  let s := accept seg a f s
  (if cross then enqueueOrDrop seg f s else s, none)

/-- A duplicate (R6, R7, R27): counted, and answered as its first copy was. -/
def takeDuplicate (seg : Segment) (f : Frame) (agent cross : Bool) (s : State) : State × Option Answer :=
  let answer := if f.dest = 0 then some Answer.ack else if agent && cross then some .ack else none
  (s.countLine seg fun c => { c with duplicates := inc16 c.duplicates }, answer)

/-- A well-formed frame from a source (R24). The answering party and the default forwarding decision are those of the table
as it stood when the check byte ended. -/
def takeWellFormed (seg : Segment) (a : Addr) (f : Frame) (s : State) : State × Option Answer :=
  if conflicts seg (s.station a) then takeConflict seg a f s
  else
    let agent := partAnswers s seg f
    let cross := crosses s seg f
    let s := learnSegment seg a s
    if isDuplicate f (s.station a) then takeDuplicate seg f agent cross s
    else if f.dest = 0 then takeOwn seg a f s
    else if agent then takeAcross seg a f cross s
    else takeUnanswered seg a f cross s

/-- A complete frame whose check byte has ended (R3, R4, R24), with the part's answer. -/
def takeFrame (seg : Segment) (f : Frame) (s : State) : State × Option Answer :=
  if !frameChecks f then (s.countLine seg fun c => { c with checkErrors := inc16 c.checkErrors }, none)
  else if isMalformed f then takeMalformed seg f s
  else
    match addrOf f.source with
    | none => takeMalformed seg f s
    | some a => takeWellFormed seg a f s

/-- FRAME_ARRIVAL (R1 to R9, R24 to R30): the frame is taken, the answer is counted, and the segment is held for the
8 ms of the ack slot, or of the hold after a broadcast. A port that is sending receives nothing. A payload length above 8 is
abandoned (R2). -/
def execFrameArrival (seg : Segment) (f : Frame) (s : State) : Host.Outcome State Fault Refusal :=
  whenPowered s fun s =>
    if isSending s seg then s
    else if 8 < f.payload.length then abandon seg (fun c => { c with malformed := inc16 c.malformed }) s
    else
      let r := takeFrame seg f (startReception seg s)
      (countAnswer seg r.2 r.1).setOccupancy seg (afterCheckByte f r.2)

end Sys2Proof.Machine
end

