-- ==== Sys2Proof/Machine/Power.lean ====
section
/-! DEFINITION. Losing power and gaining it (R194 to R196, and the power-on rule of each block). -/

namespace Sys2Proof.Machine

/-! ## POWER_LOSS (R194) -/

/-- Whether a save of the running area is CLEAR_HARD's: the stored contents hold the HARD latch and the ones being saved do
not. -/
def clearsStoredHard (stored saved : RunningImage) : Bool := stored.hardLatch && !saved.hardLatch

/-- The store without power: the area being written fails its check (R194), but CLEAR_HARD's save that has not completed
leaves the latch set in the stored area (R118, log entry 35); the other area keeps its last completed save. -/
def darkStore (t : Store) : Store :=
  match t.activity with
  | .idle => { settings := t.settings, running := t.running }
  | .savingSettings _ => { settings := damageArea settingsBytes t.settings, running := t.running }
  | .savingRunning i =>
    { settings := t.settings
      running := if clearsStoredHard t.running.contents i then t.running else damageArea runningBytes t.running }

/-- The part without power: all that is not in the store is lost. The commands that wait, and the counter of the free
values, are the model's own and stay. -/
def darkState (s : State) : State :=
  { pending := s.pending, free := s.free, powered := false, store := darkStore s.store }

/-- POWER_LOSS (R194). -/
def execPowerLoss (s : State) : Host.Outcome State Fault Refusal := whenPowered s darkState

/-! ## POWER_ON (R195) -/

/-- What the running area that failed its check is replaced by: six reset-time entries of age 0 among it (R101, R196). -/
def lostRunning : RunningImage := { resetTimes := [0, 0, 0, 0, 0, 0] }

/-- The running contents taken at power-on (R195, R196). -/
def runningToLoad (s : State) : RunningImage :=
  if passes runningBytes s.store.running then s.store.running.contents else lostRunning

/-- A station entry at power-on (R41). -/
def bootStation (pollPeriod : Nat) (c : StationConfig) : Station :=
  if c.cls = .empty then { silence := c.silence, countdown := pollPeriod }
  else
    { cls := c.cls, configured := true, pinned := c.pinned, segment := if c.pinned then c.segment else none
      silence := c.silence, watched := c.watched, poll := c.poll, countdown := pollPeriod }

/-- A record restored with the HARD latch clear: an OPEN one closes INTERRUPTED (R117). -/
def interrupted (r : LockoutRecord) : LockoutRecord :=
  if r.outcome = .open then { r with outcome := .interrupted } else r

/-- The recovery unit at power-on (R117), with the suspend condition that a restored leak latch makes (R135, R152). -/
def bootRecovery (run : RunningImage) : Recovery :=
  { state := if run.hardLatch then .hard else .idle
    records := if run.hardLatch then run.records else run.records.map interrupted
    resetTimes := run.resetTimes, hardLatch := run.hardLatch, suspend := run.leak }

/-- The burner sequencer at power-on (R96). -/
def bootBurner (run : RunningImage) : Burner :=
  if run.hardLatch then { state := .hardLocked, startDelay := none } else {}

/-- The fuel accounts at power-on (R152, R153). -/
def bootAccounts (run : RunningImage) : Accounts :=
  { residue := run.residue, burned := run.burned, reference := run.reference, leak := run.leak
    lastDelivery := run.lastDelivery, ring := run.ring }

/-- The run counters at power-on (R163). -/
def bootCounters (run : RunningImage) : RunCounters :=
  { starts := run.starts, firing := run.firing, lockouts := run.lockouts, autoResets := run.autoResets }

/-- The zone unit at power-on (R69): enabled zones start their hold timers, every valve is CLOSING. The travel timers run
for the travel time that the loaded settings hold, though R195 starts them before it loads the settings (log
entry 34). -/
def bootZones (c : Settings) : ZoneUnit :=
  { zones := Vector.ofFn fun z => if c.zones[z].enable then { hold := startUnlessZero c.zones[z].holdTime } else {}
    valves := Vector.replicate 12 { travel := startTimer c.common.travelTime }
    floor := max c.common.mgmtFloor (tankFloor c.common .unknown) }

/-- The areas as power-on leaves them: what it found, with the two failure flags (R196). -/
def bootStore (t : Store) : Store :=
  { settings := t.settings, running := t.running, settingsFailed := !passes settingsBytes t.settings
    runningFailed := !passes runningBytes t.running }

/-- Every block at its power-on values, before the alarms and the zones that are re-evaluated. -/
def bootBlocks (s : State) : State :=
  let img := imageToLoad s
  let run := runningToLoad s
  { pending := s.pending, free := s.free, settings := img.settings
    table := { entries := mapAll (fun _ c => bootStation img.settings.pollPeriod c) img.stations }
    zones := bootZones img.settings, burner := bootBurner run, recovery := bootRecovery run
    tank := { valid := tableValid img.settings.tank }, accounts := bootAccounts run
    sampler := { counters := bootCounters run }, store := bootStore s.store }

/-- SETTINGS_LOST and RUNNING_LOST, in that order (R196). -/
def raiseLost (s : State) : State :=
  let s := if s.store.settingsFailed then raise .settingsLost 0 s else s
  if s.store.runningFailed then raise .runningLost 0 s else s

/-- The zones that power-on re-evaluates: enabled, with a hold time of 0 (R48). -/
def bootReevaluates (s : State) (z : ZoneId) : Bool := (s.zoneCfg z).enable && (s.zoneCfg z).holdTime == 0

/-- Power-on (R195), ending with the first STATUS frame. -/
def boot (s : State) : State :=
  let s := raiseLost (bootBlocks s)
  buildStatus (reevalWhere .other (bootReevaluates s) s)

/-- POWER_ON (R195). A part that has power already takes no power-on (log entry 7). -/
def execPowerOn (s : State) : Host.Outcome State Fault Refusal := .next (if s.powered then s else boot s)

end Sys2Proof.Machine
end

