-- ==== Sys2Proof/Machine/TimeBase.lean ====
section
/-! DEFINITION. One second of the time base (R185): the clock, and every age, list and timer that counts seconds. What a
timer's end or an age's limit does is a command of its own. -/

namespace Sys2Proof.Machine

/-- The clock (R185): at 86,400 it wraps to 0, the day number grows, and a midnight is handed over (log entry 4). -/
def tickClock (t : TimeBase) : TimeBase :=
  if daySeconds ≤ t.timeOfDay + 1 then
    { t with timeOfDay := 0, day := (t.day + 1) % 65536, midnight := true }
  else { t with timeOfDay := t.timeOfDay + 1 }

/-- A station entry: its age (R31), its poll countdown (R36) and its duplicate window (R27). Place 0 is no entry. -/
def tickStation (a : Addr) (e : Station) : Station :=
  if a = 0 then e
  else
    { e with
      age := inc16 e.age, countdown := e.countdown - 1
      last := e.last.map fun l => { l with window := tickTimer l.window } }

/-- The answer wait of the poll in flight (R38). -/
def tickPhase : PollPhase → PollPhase
  | .sending => .sending
  | .awaiting w => .awaiting (tickTimer w)

def tickTable (t : StationTable) : StationTable :=
  { t with
    entries := mapAll tickStation t.entries
    inFlight := t.inFlight.map fun i => { i with phase := tickPhase i.phase } }

/-- A zone's hold timer, boost remaining and priority timer (R48, R50, R57). -/
def tickZone (z : Zone) : Zone :=
  { z with hold := tickTimer z.hold, boost := tickTimer z.boost, priority := tickTimer z.priority }

/-- The zone unit: its zones, the travel timers and the pump overrun (R61, R66). -/
def tickZones (u : ZoneUnit) : ZoneUnit :=
  { u with
    zones := mapAll (fun _ z => tickZone z) u.zones
    valves := mapAll (fun _ v => { v with travel := tickTimer v.travel }) u.valves
    overrun := tickTimer u.overrun }

/-- The burner sequencer: the ages of its starts (R77), the call clock while a start is in progress (R71, R95), and its
timers. -/
def tickBurner (b : Burner) : Burner :=
  { b with
    startTimes := b.startTimes.map (· + 1)
    callClock := if b.start.isSome then satInc 255 b.callClock else b.callClock
    startDelay := tickTimer b.startDelay, pacing := tickTimer b.pacing, preheat := tickTimer b.preheat
    response := tickTimer b.response, proving := tickTimer b.proving, minimumRun := tickTimer b.minimumRun
    flameOut := tickTimer b.flameOut, firingSecond := tickTimer b.firingSecond }

/-- The recovery unit: its timers, and the ages of its pulses (R101). -/
def tickRecovery (r : Recovery) : Recovery :=
  { r with
    resetTimes := r.resetTimes.map (· + 1)
    coolDown := tickTimer r.coolDown, release := tickTimer r.release, observe := tickTimer r.observe
    window := tickTimer r.window, service := tickTimer r.service, pulse := tickTimer r.pulse }

/-- The tank gauge: the stale timer and the age of the sender temperature (R123). -/
def tickTank (k : Tank) : Tank := { k with stale := tickTimer k.stale, tempAge := inc16 k.tempAge }

/-- The alarm unit: the ages of its sends (R174) and its STATUS timers. -/
def tickAlarms (a : AlarmUnit) : AlarmUnit :=
  { a with
    sendTimes := a.sendTimes.map (· + 1), spacing := tickTimer a.spacing, periodic := tickTimer a.periodic }

/-- One second at every block. -/
def tickSecond (s : State) : State :=
  { s with
    time := tickClock s.time, table := tickTable s.table, zones := tickZones s.zones, burner := tickBurner s.burner
    recovery := tickRecovery s.recovery, tank := tickTank s.tank
    accounts := { s.accounts with spacing := tickTimer s.accounts.spacing }, alarms := tickAlarms s.alarms }

/-- TIME_BASE_SECOND (R185). -/
def execTimeBaseSecond (s : State) : Host.Outcome State Fault Refusal := whenPowered s tickSecond

end Sys2Proof.Machine
end

