-- ==== Sys2Proof/Machine/Dispatch.lean ====
section
/-! DEFINITION. The meaning of every command: one arm per constructor of `Instr`, each one direct call of its meaning. -/

namespace Sys2Proof.Machine

def exec (i : Instr) (s : State) : Host.Outcome State Fault Refusal :=
  match i with
  | .powerOn => Sys2Proof.Machine.execPowerOn s
  | .powerLoss => Sys2Proof.Machine.execPowerLoss s
  | .timeBaseSecond => Sys2Proof.Machine.execTimeBaseSecond s
  | .midnight => Sys2Proof.Machine.execMidnight s
  | .frameArrival seg frame => Sys2Proof.Machine.execFrameArrival seg frame s
  | .frameAbandon seg cause => Sys2Proof.Machine.execFrameAbandon seg cause s
  | .characterGapExpiry seg => Sys2Proof.Machine.execCharacterGapExpiry seg s
  | .ackSlotClose slot => Sys2Proof.Machine.execAckSlotClose slot s
  | .answerCharacterReceived seg char => Sys2Proof.Machine.execAnswerCharacterReceived seg char s
  | .retryWaitExpiry seg place => Sys2Proof.Machine.execRetryWaitExpiry seg place s
  | .transmitSelection seg => Sys2Proof.Machine.execTransmitSelection seg s
  | .frameSent seg => Sys2Proof.Machine.execFrameSent seg s
  | .duplicateWindowExpiry station => Sys2Proof.Machine.execDuplicateWindowExpiry station s
  | .silenceLimitReached station => Sys2Proof.Machine.execSilenceLimitReached station s
  | .absencePointReached station => Sys2Proof.Machine.execAbsencePointReached station s
  | .pollCountdownExpiry station => Sys2Proof.Machine.execPollCountdownExpiry station s
  | .pollAnswerWaitExpiry => Sys2Proof.Machine.execPollAnswerWaitExpiry s
  | .holdTimerExpiry zone => Sys2Proof.Machine.execHoldTimerExpiry zone s
  | .boostExpiry zone => Sys2Proof.Machine.execBoostExpiry zone s
  | .fallbackDutyBoundary zone => Sys2Proof.Machine.execFallbackDutyBoundary zone s
  | .priorityTimerExpiry zone => Sys2Proof.Machine.execPriorityTimerExpiry zone s
  | .switchClose output => Sys2Proof.Machine.execSwitchClose output s
  | .switchOpen output => Sys2Proof.Machine.execSwitchOpen output s
  | .endSwitchFirstValue closed => Sys2Proof.Machine.execEndSwitchFirstValue closed s
  | .travelExpiry output => Sys2Proof.Machine.execTravelExpiry output s
  | .pumpOverrunExpiry => Sys2Proof.Machine.execPumpOverrunExpiry s
  | .startDelayExpiry => Sys2Proof.Machine.execStartDelayExpiry s
  | .pacingExpiry => Sys2Proof.Machine.execPacingExpiry s
  | .preheatExpiry => Sys2Proof.Machine.execPreheatExpiry s
  | .boxNoResponse => Sys2Proof.Machine.execBoxNoResponse s
  | .provingExpiry => Sys2Proof.Machine.execProvingExpiry s
  | .minimumRunExpiry => Sys2Proof.Machine.execMinimumRunExpiry s
  | .firingSecond => Sys2Proof.Machine.execFiringSecond s
  | .flameOut => Sys2Proof.Machine.execFlameOut s
  | .runRise => Sys2Proof.Machine.execRunRise s
  | .runFall => Sys2Proof.Machine.execRunFall s
  | .lockoutRise => Sys2Proof.Machine.execLockoutRise s
  | .lockoutFall => Sys2Proof.Machine.execLockoutFall s
  | .coolDownExpiry => Sys2Proof.Machine.execCoolDownExpiry s
  | .resetPulseEnd => Sys2Proof.Machine.execResetPulseEnd s
  | .releaseWaitExpiry => Sys2Proof.Machine.execReleaseWaitExpiry s
  | .provingWindowExpiry => Sys2Proof.Machine.execProvingWindowExpiry s
  | .observeLimitExpiry => Sys2Proof.Machine.execObserveLimitExpiry s
  | .serviceWaitExpiry => Sys2Proof.Machine.execServiceWaitExpiry s
  | .resetTimeEntryExpiry => Sys2Proof.Machine.execResetTimeEntryExpiry s
  | .staleTimerExpiry => Sys2Proof.Machine.execStaleTimerExpiry s
  | .spacingTimerExpiry => Sys2Proof.Machine.execSpacingTimerExpiry s
  | .contactSenseChange relay closed => Sys2Proof.Machine.execContactSenseChange relay closed s
  | .readbackExpiry relay => Sys2Proof.Machine.execReadbackExpiry relay s
  | .alarmSend => Sys2Proof.Machine.execAlarmSend s
  | .sendTimeEntryExpiry => Sys2Proof.Machine.execSendTimeEntryExpiry s
  | .statusSpacingExpiry => Sys2Proof.Machine.execStatusSpacingExpiry s
  | .statusPeriodicExpiry => Sys2Proof.Machine.execStatusPeriodicExpiry s
  | .replyHandOver => Sys2Proof.Machine.execReplyHandOver s
  | .serviceInputChange closed => Sys2Proof.Machine.execServiceInputChange closed s
  | .saveComplete => Sys2Proof.Machine.execSaveComplete s
  | .unknownCommand req code args => Sys2Proof.Machine.execUnknownCommand req code args s
  | .readField req table index field => Sys2Proof.Machine.execReadField req table index field s
  | .writeField req table index field value => Sys2Proof.Machine.execWriteField req table index field value s
  | .writeStationClass req station value => Sys2Proof.Machine.execWriteStationClass req station value s
  | .writeStationSegment req station which value => Sys2Proof.Machine.execWriteStationSegment req station which value s
  | .writePollFlag req station value => Sys2Proof.Machine.execWritePollFlag req station value s
  | .writePollPeriod req station value => Sys2Proof.Machine.execWritePollPeriod req station value s
  | .writeZoneEnable req zone value => Sys2Proof.Machine.execWriteZoneEnable req zone value s
  | .writeValveOutput req zone value => Sys2Proof.Machine.execWriteValveOutput req zone value s
  | .writeZoneSetting req zone setting value => Sys2Proof.Machine.execWriteZoneSetting req zone setting value s
  | .writeFloorSetting req which value => Sys2Proof.Machine.execWriteFloorSetting req which value s
  | .writeTankHeight req value => Sys2Proof.Machine.execWriteTankHeight req value s
  | .writeStrapping req target value => Sys2Proof.Machine.execWriteStrapping req target value s
  | .writeReserveCutout req which value => Sys2Proof.Machine.execWriteReserveCutout req which value s
  | .writeNozzleRate req value => Sys2Proof.Machine.execWriteNozzleRate req value s
  | .writeSampleInterval req value => Sys2Proof.Machine.execWriteSampleInterval req value s
  | .commit req => Sys2Proof.Machine.execCommit req s
  | .reload req => Sys2Proof.Machine.execReload req s
  | .setFloor req floor => Sys2Proof.Machine.execSetFloor req floor s
  | .setTime req timeOfDay day => Sys2Proof.Machine.execSetTime req timeOfDay day s
  | .releaseSample req => Sys2Proof.Machine.execReleaseSample req s
  | .ackLeak req => Sys2Proof.Machine.execAckLeak req s
  | .clearHard req => Sys2Proof.Machine.execClearHard req s
  | .clearFault req => Sys2Proof.Machine.execClearFault req s
  | .clearCounters req => Sys2Proof.Machine.execClearCounters req s
  | .forcePoll req address => Sys2Proof.Machine.execForcePoll req address s
  | .statusNow req => Sys2Proof.Machine.execStatusNow req s
  | .frameStart seg => Sys2Proof.Machine.execFrameStart seg s

end Sys2Proof.Machine
end

