-- ==== Sys2Proof/Safety.lean ====
section
/-! DEFINITION. What a safe state of the part is, and the terms the statements are written in: what a command may touch,
what it is to have been answered, and the invariants every step keeps. -/

namespace Sys2Proof.Machine

/-! ## What a command may touch

Each of these is the state before with the named parts taken from the state after, so that `t = xTouched s t` says that
everything else is unchanged. -/

/-- The STATUS frames (R175): the two STATUS slots, the own-frame sequence with entry 0's last accepted record, and the
alarm unit's due flag and STATUS timers. -/
def statusTouched (s t : State) : State :=
  { s with
    portA := { s.portA with status := t.portA.status }
    portB := { s.portB with status := t.portB.status }
    ownSeq := t.ownSeq
    table := { s.table with ownLast := t.table.ownLast }
    alarms := { s.alarms with due := t.alarms.due, spacing := t.alarms.spacing, periodic := t.alarms.periodic } }

/-- The STATUS frames and the pending alarm set. -/
def alarmsTouched (s t : State) : State :=
  { statusTouched s t with alarms := t.alarms, table := { s.table with ownLast := t.table.ownLast } }

/-- What a change of burner state reaches (R72, R95): the sequencer, the BURNER, PREHEAT and PUMP relays, the pump overrun,
recovery's proving window, the start sampler, and a STATUS frame. -/
def burnerTouched (s t : State) : State :=
  { statusTouched s t with
    burner := t.burner
    monitor := { t.monitor with reset := s.monitor.reset }
    zones := { s.zones with overrun := t.zones.overrun }
    recovery := { s.recovery with window := t.recovery.window }
    sampler := t.sampler }

/-- The same with the pending alarm set. -/
def burnerAlarmsTouched (s t : State) : State := { burnerTouched s t with alarms := { t.alarms with sendTimes := s.alarms.sendTimes } }

/-- What a change at the zones reaches (R56 to R65): every zone's and valve's record and burner demand, with all that a
burner state reaches, and the pending alarm set. The stations' records and the effective floor are kept. -/
def zonesTouched (s t : State) : State :=
  { burnerAlarmsTouched s t with
    zones := { t.zones with units := s.zones.units, floor := s.zones.floor } }

/-- What a change in recovery reaches: the recovery unit but for the LOCKOUT sense and the suspend condition, all that a
burner state reaches, the RESET relay, the pending alarm set and the store's activity. -/
def recoveryTouched (s t : State) : State :=
  { burnerAlarmsTouched s t with
    recovery := { t.recovery with lockout := s.recovery.lockout, suspend := s.recovery.suspend }
    monitor := t.monitor
    store := { s.store with activity := t.store.activity, runningPending := t.store.runningPending } }

/-! ## The line -/

/-- A port that a frame can arrive at without ending an attempt of the part's own: it is neither sending nor waiting for an
answer (R1, R13). -/
def lineOpen (s : State) (seg : Segment) : Bool :=
  match (s.port seg).occupancy with
  | .free | .receiving | .quiet | .slot _ | .hold | .late none => true
  | .sending _ _ | .awaiting _ _ | .late (some _) => false

/-- A complete frame of a station that the part's checks let through (R2 to R4): its payload is at most eight bytes, its
check byte is right, it is not malformed, and its source is the station `a`. -/
def wellFormedFrom (a : Addr) (f : Frame) : Prop :=
  f.payload.length ≤ 8 ∧ frameChecks f = true ∧ isMalformed f = false ∧ addrOf f.source = some a

/-- A source entry as an arrival finds it (R26): an unpinned one takes the arrival segment. -/
def learned (seg : Segment) (e : Station) : Station := if e.pinned then e else { e with segment := some seg }

/-- The station table after an arrival taught it the source's segment (R26). -/
def learnedTable (s : State) (seg : Segment) (a : Addr) : StationTable := (learnSegment seg a s).table

/-! ## Start decisions and relays -/

/-- Each relay command of the sequencer and the pump is the one the state asks for (R65, R73, R74). -/
def relaysFollow (t : State) : Prop :=
  t.monitor.burner.command = callsBox t.burner.state
    ∧ t.monitor.preheat.command = (t.burner.preheatChosen && mayPreheat t.burner.state)
    ∧ t.monitor.pump.command = pumpWanted t

/-- A call of the box from a state (R82, R83): the start joins the start-time list, and the burner is CALLED with its
response timer, or STARTING with its proving timer where RUN counts as risen. -/
def boxCalled (s t : State) : Prop :=
  t.burner.callClock = 0
    ∧ if s.burner.run then
        t.burner.state = .starting ∧ t.burner.response = none
          ∧ t.burner.proving = some s.settings.burner.provingTime
      else t.burner.state = .called ∧ t.burner.response = some s.settings.burner.responseLimit

/-- A start decided with the demand standing (R78 to R82): PACING while the list is full, else PREHEAT where it is chosen,
else the box is called and the start counted. -/
def startDecided (s t : State) : Prop :=
  let live := s.burner.startTimes.filter (· < 3600)
  if s.settings.burner.startsPerHour ≤ live.length then
    t.burner.state = .pacing ∧ t.burner.pacing = some (3600 - live.headD 0) ∧ t.burner.startTimes = live
  else if choosesPreheat s then
    t.burner.state = .preheat ∧ t.burner.preheatChosen = true
      ∧ t.burner.preheat = some s.settings.burner.preheatTime ∧ t.burner.startTimes = live
  else
    boxCalled s t ∧ t.burner.startTimes = live ++ [0] ∧ t.burner.start = some false
      ∧ t.sampler.counters.starts = min (s.sampler.counters.starts + 1) 4294967295

/-! ## Alarms -/

/-- The pending set after a raise: unchanged for a kind whose enable is clear (R169, R171). -/
def raisedSet (s : State) (k : AlarmKind) (d : BitVec 24) : List AlarmEntry :=
  if enableOf s.settings.alarms k then raiseInto k d s.alarms.waiting else s.alarms.waiting

/-- A kind is pending. -/
def isPending (t : State) (k : AlarmKind) : Prop := ∃ e ∈ t.alarms.waiting, e.kind = k

/-- The pending entry of a kind, or none. -/
def pendingOf (t : State) (k : AlarmKind) : Option AlarmEntry := t.alarms.waiting.find? fun e => e.kind == k

/-! ## Zones and valves -/

/-- Two zone records agree on what re-evaluation decides (R46): the demand state, the hold timer and held call, the frost
flag, the boost, the current level and acceptance. Priority and deferral follow later (R57, R58). -/
def sameCall (r w : Zone) : Prop :=
  r = { w with priority := r.priority, priorityCall := r.priorityCall, spent := r.spent, deferred := r.deferred }

/-- The drive columns of R61, from a valve record to the one after it: a drive that keeps its value leaves the record; a
drive energised takes CLOSED, CLOSING and STUCK_OPEN to OPENING with the travel timer started afresh, or to OPEN at once
where the end switch counts as closed; a drive de-energised takes OPENING, OPEN and STUCK_CLOSED to CLOSING, or to CLOSED at
once where it counts as open. -/
def driveColumns (travelTime : Nat) (v w : Valve) : Prop :=
  let resting := v.state = .closed ∨ v.state = .closing ∨ v.state = .stuckOpen
  (w.drive = v.drive → w = v)
    ∧ (v.drive = false → w.drive = true →
        (resting → w.switch = v.switch
            ∧ (v.switch = some true → w.state = .open ∧ w.travel = none)
            ∧ (v.switch ≠ some true → w.state = .opening ∧ w.travel = some travelTime))
          ∧ (¬ resting → w = { v with drive := true }))
    ∧ (v.drive = true → w.drive = false →
        (¬ resting → w.switch = v.switch
            ∧ (v.switch = some false → w.state = .closed ∧ w.travel = none)
            ∧ (v.switch ≠ some false → w.state = .closing ∧ w.travel = some travelTime))
          ∧ (resting → w = { v with drive := false }))

/-! ## The tank -/

/-- The tank state and its reports, from the state it had and the volume and thresholds now in force (R130, R131): an entry
into LOW, EMPTY or UNKNOWN is counted and raised with its detail (R172), and the effective floor and the suspend condition
follow. A state that stays reports nothing. -/
def tankFollows (cause : UnknownCause) (s t : State) : Prop :=
  let new := classify s.tank.state t.settings.tank.reserve t.settings.tank.cutout t.tank.volume
  let old := s.tank.counts
  let now := t.tank.counts
  let raised (k : AlarmKind) (d : BitVec 24) : Prop :=
    pendingOf t k = (raisedSet s k d).find? fun e => e.kind == k
  t.tank.state = new
    ∧ now.lowEntries = (if new = .low ∧ s.tank.state ≠ .low then inc16 old.lowEntries else old.lowEntries)
    ∧ now.emptyEntries = (if new = .empty ∧ s.tank.state ≠ .empty then inc16 old.emptyEntries else old.emptyEntries)
    ∧ now.unknownEntries =
      (if new = .unknown ∧ s.tank.state ≠ .unknown then inc16 old.unknownEntries else old.unknownEntries)
    ∧ (∀ v, t.tank.volume = some v → new ≠ s.tank.state →
        (new = .low → raised .tankLow (detailHalfByte v (tankCode s.tank.state)))
          ∧ (new = .empty → raised .tankEmpty (detailHalfByte v (tankCode s.tank.state))))
    ∧ (new = .unknown → s.tank.state ≠ .unknown →
        raised .tankUnknown (detailByteHalf (unknownCauseCode cause) (BitVec.ofNat 16 (s.tank.volume.getD 65535))))
    ∧ (∀ k ∈ [AlarmKind.tankLow, .tankEmpty, .tankUnknown],
        new = s.tank.state ∨ new = .normal → pendingOf t k = pendingOf s k)
    ∧ (new ≠ s.tank.state →
        t.zones.floor = max t.settings.common.mgmtFloor (tankFloor t.settings.common new)
          ∧ t.recovery.suspend = (decide (new = .empty) || t.accounts.leak))

/-- What the fuel accounts make of the measured volume a step leaves (R142): a changed and known one is reconciled exactly
while the book is UNSET or the spacing timer does not run, and else it is passed over. -/
def accountsFollow (s t : State) : Prop :=
  let judged := t.tank.volume ≠ s.tank.volume ∧ (s.accounts.reference = none ∨ s.accounts.spacing = none)
  (∀ m, t.tank.volume = some m → judged →
      t.accounts = (reconcile m s).accounts ∧ pendingOf t .delivery = pendingOf (reconcile m s) .delivery)
    ∧ (t.tank.volume = none ∨ ¬ judged → t.accounts = s.accounts ∧ pendingOf t .delivery = pendingOf s .delivery)

/-- What follows the measured volume a step leaves (R129 to R131, R142): a change is judged by the fuel accounts and then
classifies the tank; a volume that stays leaves the tank state and its counts. -/
def volumeFollows (cause : UnknownCause) (s t : State) : Prop :=
  accountsFollow s t
    ∧ (t.tank.volume ≠ s.tank.volume → tankFollows cause s t)
    ∧ (t.tank.volume = s.tank.volume →
        t.tank.state = s.tank.state ∧ t.tank.counts.lowEntries = s.tank.counts.lowEntries
          ∧ t.tank.counts.emptyEntries = s.tank.counts.emptyEntries
          ∧ t.tank.counts.unknownEntries = s.tank.counts.unknownEntries)

/-! ## Requests -/

/-- A request that the unit accepts (R178, R179): the part has power, the unit is free, and the sender is a station that
passes the access test with these rights. -/
def acceptsRequest (s : State) (req : Requester) (rights : Rights) : Prop :=
  s.powered = true ∧ req.station ≠ 0 ∧ s.mgmt.hand = none ∧ rightsOf s req.station = some rights

/-- The management unit after it has answered a request: it holds the request with the MGMT_REPLY built for it, and has
counted it (R14, R20, R179). -/
def answered (s : State) (req : Requester) (rights : Rights) (code : Byte) (args : List Byte) (result : Result)
    (data : List Byte) : Mgmt :=
  { s.mgmt with
    hand := some
      { requester := req, code := code, args := args, rights := rights
        reply := some (buildFrame (BitVec.ofNat 8 req.station.val) 7 req.seq
          (code :: BitVec.ofNat 8 (resultCode result) :: data)) }
    handled := inc16 s.mgmt.handled }

/-- The part while the unit holds a request whose reply is not built yet (R179): what a command reads and acts on. -/
def holding (s : State) (req : Requester) (rights : Rights) (code : Byte) (args : List Byte) : State :=
  { s with mgmt :=
    { s.mgmt with hand := some { requester := req, code := code, args := args, rights := rights, reply := none } } }

/-- A state with the management unit of another. -/
def withMgmt (s : State) (m : Mgmt) : State := { s with mgmt := m }

/-- A write that the unit accepts: of the rights of a SERVICE_TOOL (R180). -/
def acceptsWrite (s : State) (req : Requester) : Prop := acceptsRequest s req .serviceTool

/-- The management unit after a write of a value to a field, answered with a result. -/
def wrote (s : State) (req : Requester) (table index field : Byte) (value : List Byte) (result : Result) : Mgmt :=
  answered s req .serviceTool 2 (table :: index :: field :: value) result []

/-- The result of a write of a quantity (R182): DONE_CLAMPED when it lies outside its range. -/
def rangeResult (lo hi v : Nat) : Result := if lo ≤ v ∧ v ≤ hi then .done else .doneClamped

/-- A quantity of two bytes, high byte first (R181). -/
def halfOf (b c : Byte) : Nat := b.toNat * 256 + c.toNat

/-- The code and the argument bytes of a command that is a request (R20, R180). -/
def requestOf : Instr → Option (Requester × Byte × List Byte)
  | .unknownCommand r c args => some (r, c, args)
  | .readField r t i n => some (r, 1, [t, i, n])
  | .writeField r t i n v => some (r, 2, t :: i :: n :: v)
  | .writeStationClass r a v => some (r, 2, 1 :: BitVec.ofNat 8 a.val :: 1 :: v)
  | .writeStationSegment r a .segment v => some (r, 2, 1 :: BitVec.ofNat 8 a.val :: 3 :: v)
  | .writeStationSegment r a .pinned v => some (r, 2, 1 :: BitVec.ofNat 8 a.val :: 4 :: v)
  | .writePollFlag r a v => some (r, 2, 1 :: BitVec.ofNat 8 a.val :: 13 :: v)
  | .writePollPeriod r a v => some (r, 2, 1 :: BitVec.ofNat 8 a.val :: 20 :: v)
  | .writeZoneEnable r z v => some (r, 2, 3 :: BitVec.ofNat 8 z.val :: 2 :: v)
  | .writeValveOutput r z v => some (r, 2, 3 :: BitVec.ofNat 8 z.val :: 6 :: v)
  | .writeZoneSetting r z .type v => some (r, 2, 3 :: BitVec.ofNat 8 z.val :: 1 :: v)
  | .writeZoneSetting r z .bindingList v => some (r, 2, 3 :: BitVec.ofNat 8 z.val :: 3 :: v)
  | .writeZoneSetting r z .baseLevel v => some (r, 2, 3 :: BitVec.ofNat 8 z.val :: 4 :: v)
  | .writeZoneSetting r z .frostFloor v => some (r, 2, 3 :: BitVec.ofNat 8 z.val :: 5 :: v)
  | .writeZoneSetting r z .duty v => some (r, 2, 3 :: BitVec.ofNat 8 z.val :: 8 :: v)
  | .writeZoneSetting r z .limit v => some (r, 2, 3 :: BitVec.ofNat 8 z.val :: 10 :: v)
  | .writeFloorSetting r .low v => some (r, 2, 3 :: 12 :: 1 :: v)
  | .writeFloorSetting r .unknown v => some (r, 2, 3 :: 12 :: 2 :: v)
  | .writeTankHeight r v => some (r, 2, 5 :: 0 :: 1 :: v)
  | .writeStrapping r (.height i) v => some (r, 2, 4 :: BitVec.ofNat 8 i.val :: 1 :: v)
  | .writeStrapping r (.volume i) v => some (r, 2, 4 :: BitVec.ofNat 8 i.val :: 2 :: v)
  | .writeStrapping r .pointCount v => some (r, 2, 5 :: 0 :: 2 :: v)
  | .writeReserveCutout r .reserve v => some (r, 2, 5 :: 0 :: 5 :: v)
  | .writeReserveCutout r .cutout v => some (r, 2, 5 :: 0 :: 6 :: v)
  | .writeNozzleRate r v => some (r, 2, 5 :: 0 :: 7 :: v)
  | .writeSampleInterval r v => some (r, 2, 6 :: 0 :: 8 :: v)
  | .commit r => some (r, 3, [])
  | .reload r => some (r, 4, [])
  | .setFloor r f => some (r, 5, [f])
  | .setTime r t d => some (r, 6, bytesOf 3 t.toNat ++ bytes2 d.toNat)
  | .releaseSample r => some (r, 7, [])
  | .ackLeak r => some (r, 8, [])
  | .clearHard r => some (r, 9, [])
  | .clearFault r => some (r, 10, [])
  | .clearCounters r => some (r, 11, [])
  | .forcePoll r a => some (r, 12, [a])
  | .statusNow r => some (r, 13, [])
  | .powerOn | .powerLoss | .timeBaseSecond | .midnight | .frameArrival _ _ | .frameAbandon _ _ | .characterGapExpiry _
  | .ackSlotClose _ | .answerCharacterReceived _ _ | .retryWaitExpiry _ _ | .transmitSelection _ | .frameSent _
  | .duplicateWindowExpiry _ | .silenceLimitReached _ | .absencePointReached _ | .pollCountdownExpiry _
  | .pollAnswerWaitExpiry | .holdTimerExpiry _ | .boostExpiry _ | .fallbackDutyBoundary _ | .priorityTimerExpiry _
  | .switchClose _ | .switchOpen _ | .endSwitchFirstValue _ | .travelExpiry _ | .pumpOverrunExpiry | .startDelayExpiry
  | .pacingExpiry | .preheatExpiry | .boxNoResponse | .provingExpiry | .minimumRunExpiry | .firingSecond | .flameOut
  | .runRise | .runFall | .lockoutRise | .lockoutFall | .coolDownExpiry | .resetPulseEnd | .releaseWaitExpiry
  | .provingWindowExpiry | .observeLimitExpiry | .serviceWaitExpiry | .resetTimeEntryExpiry | .staleTimerExpiry
  | .spacingTimerExpiry | .contactSenseChange _ _ | .readbackExpiry _ | .alarmSend | .sendTimeEntryExpiry
  | .statusSpacingExpiry | .statusPeriodicExpiry | .replyHandOver | .serviceInputChange _ | .saveComplete
  | .frameStart _ => none

/-! ## Invariants -/

/-- Whether recovery holds the burner for an open episode (R98). -/
def holdsBurner : RecoveryState → Bool
  | .cooling | .resetting | .suspended => true
  | .idle | .observing | .hard => false

/-- The interlock of the burner with recovery and the output faults (R73, R91 to R94): the box is called only in IDLE or
OBSERVING with no BURNER or RESET fault latched, and each of LOCKED_OUT, HARD_LOCKED and OUTPUT_FAULT stands exactly as
its cause does. -/
structure Interlocked (s : State) : Prop where
  /-- a BURNER or RESET fault is latched exactly in OUTPUT_FAULT -/
  fault : s.burner.state = .outputFault ↔ resetHold s = true
  /-- LOCKED_OUT stands exactly while recovery holds the burner and no such fault is latched -/
  locked : s.burner.state = .lockedOut ↔ holdsBurner s.recovery.state = true ∧ resetHold s = false
  /-- HARD_LOCKED stands exactly in HARD while no such fault is latched -/
  hard : s.burner.state = .hardLocked ↔ s.recovery.state = .hard ∧ resetHold s = false
  /-- the BURNER relay is commanded closed exactly while the box is called -/
  relay : s.monitor.burner.command = callsBox s.burner.state

/-- Every output is commanded as the state asks, and every relay drive follows its command, RESET held open under a BURNER
or RESET fault (R65, R73, R74, R164). -/
structure OutputsFollow (s : State) : Prop where
  relays : relaysFollow s
  drives : ∀ r, (s.relay r).drive = followedCommand s r

/-- The zones are settled (R55 to R59, R64): the effective floor, every acceptance, priority, deferral and valve drive, and
burner demand are what the rest of the state makes them. -/
structure ZonesSettled (s : State) : Prop where
  floor : s.zones.floor = floorWanted s
  accepted : ∀ z, (s.zone z).accepted = ((s.zoneCfg z).enable && decideAccepted s.zones.floor (s.zone z).level)
  priority : ∀ z, decidePriority (s.zoneCfg z) (s.zone z) = s.zone z
  deferred : ∀ z, (s.zone z).deferred = decideDeferred (anyPriority s) (s.zoneCfg z) (s.zone z)
  drives : ∀ o, (s.valve o).drive = driveWanted s o
  demand : s.zones.demand = demandWanted s
  told : s.burner.demand = s.zones.demand

/-- The valves stand on the side of their drives (R61): an energised valve is OPENING, OPEN or STUCK_CLOSED and a de-energised
one CLOSING, CLOSED or STUCK_OPEN; the travel timer runs exactly in OPENING and CLOSING; and no valve stays CLOSING whose end
switch counts as open. -/
structure ValvesFollow (s : State) : Prop where
  side : ∀ o, (s.valve o).drive = true ↔
    (s.valve o).state = .opening ∨ (s.valve o).state = .open ∨ (s.valve o).state = .stuckClosed
  travel : ∀ o, (s.valve o).travel.isSome = true ↔ (s.valve o).state = .opening ∨ (s.valve o).state = .closing
  entry : ∀ o, (s.valve o).state = .closing → (s.valve o).switch ≠ some false

/-- The tank and what follows it is settled (R100, R121, R129, R130): the table-valid flag, the measured volume, the UNKNOWN
tank state and recovery's suspend condition are what the rest of the state makes them. -/
structure GaugeSettled (s : State) : Prop where
  valid : s.tank.valid = tableValid s.settings.tank
  volume : s.tank.volume = volumeWanted s
  state : s.tank.state = .unknown ↔ s.tank.volume = none
  suspend : s.recovery.suspend = suspendHolds s

/-- The settings that bound the start-time list and the reset-time list (R76, R77, R99, R101). -/
def listLimits (c : Settings) : Prop := c.burner.startsPerHour ≤ 12 ∧ c.recovery.windowBudget ≤ 6

/-- The lists of a running image within their bounds (R101, R105, R149). -/
def runningBounded (i : RunningImage) : Prop :=
  i.ring.length ≤ 7 ∧ i.records.length ≤ 8 ∧ i.resetTimes.length ≤ 6

/-- Only the newest record of a list may be OPEN (R105). -/
def onlyNewestOpen (l : List LockoutRecord) : Prop := ∀ r ∈ l.dropLast, r.outcome ≠ .open

/-- The lists that a rule bounds (R10, R77, R101, R105, R126, R149, R170, R174). The settings that bound two of them, and the
store's contents, which power-on and RELOAD load, are bounded with the rest (R76, R99). -/
structure ListsBounded (s : State) : Prop where
  queueA : s.portA.queue.length ≤ 8
  queueB : s.portB.queue.length ≤ 8
  window : s.tank.window.length ≤ 5
  kinds : (s.alarms.waiting.map (·.kind)).Nodup
  sends : s.alarms.sendTimes.length ≤ 4
  ring : s.accounts.ring.length ≤ 7
  records : s.recovery.records.length ≤ 8
  starts : s.burner.startTimes.length ≤ 12
  resets : s.recovery.resetTimes.length ≤ 6
  limits : listLimits s.settings
  storedLimits : listLimits s.store.settings.contents.settings
  savingLimits : ∀ i, s.store.activity = .savingSettings i → listLimits i.settings
  stored : runningBounded s.store.running.contents
  saving : ∀ i, s.store.activity = .savingRunning i → runningBounded i

/-- What keeps a running image fit for power-on: at most its newest record is OPEN, and with the HARD latch set it is
(R105, R117). -/
def imageRecorded (i : RunningImage) : Prop :=
  onlyNewestOpen i.records ∧ (i.hardLatch = true → i.records.getLast?.map (·.outcome) = some .open)

/-- The episodes are recorded (R98, R105, R113): at most one record is OPEN and it is the newest, recovery is IDLE exactly
while none is OPEN, and the HARD latch stands exactly in HARD. The running images of the store are fit to be restored. -/
structure EpisodeRecorded (s : State) : Prop where
  newest : onlyNewestOpen s.recovery.records
  idle : s.recovery.state = .idle ↔ ∀ r ∈ s.recovery.records, r.outcome ≠ .open
  latch : s.recovery.hardLatch = true ↔ s.recovery.state = .hard
  stored : imageRecorded s.store.running.contents
  saving : ∀ i, s.store.activity = .savingRunning i → imageRecorded i

/-- No two zones hold one valve output (R43). -/
def outputsDistinct (c : Settings) : Prop :=
  ∀ y z : ZoneId, c.zones[y].output.isSome = true → c.zones[y].output = c.zones[z].output → y = z

/-- No two zones hold one valve output in the settings in force, nor in what the store holds or is being given. -/
structure OutputsHeldOnce (s : State) : Prop where
  working : outputsDistinct s.settings
  stored : outputsDistinct s.store.settings.contents.settings
  saving : ∀ i, s.store.activity = .savingSettings i → outputsDistinct i.settings

end Sys2Proof.Machine
end

