-- ==== Sys2Proof/Certificates/Slice0/Obligations.lean ====
section
/-! DEFINITION. The statements for the provers, family by family in the order of spec/opcode_table.json, after the
statements about the whole part and its invariants. In each, a timer at `some 0` is one whose time is up, so that its
expiry can be taken. -/

section

open Sys2Proof Sys2Proof.Machine

/-! ## The whole part -/

/-- A step carries out the command at the front of the queue with the rest of the queue, and an empty queue idles. The
queue is the model's own, and so is the idle step (log entry 14). -/
def Obligations.StepRunsFrontCommand : Prop :=
  (∀ (c : Instr) (s : State), step { s with pending := c :: s.pending } = exec c s)
    ∧ ∀ s : State, s.pending = [] → step s = .next s

/-- No command stops the part: in every state every command answers a next state, and leaves the commands that wait as
they are. -/
def Obligations.EveryCommandAnswersNext : Prop :=
  ∀ (c : Instr) (s : State), ∃ t, exec c s = .next t ∧ t.pending = s.pending

/-- POWER_LOSS (R118, R194): the part loses its power and all that is not in the store. An area that was being saved
fails its check afterwards, and an area that was not is kept as its last completed save left it. A CLEAR_HARD save
that has not completed leaves the stored area, with its HARD latch set, as it stood, so that the next POWER_ON starts
in HARD again with the newest record as it was stored; that R118 goes before R194 there is the model's choice (log
entry 35). That the commands waiting and the counter of the free values stay, and every other field falls to its
default, is the model's choice too (log entry 24). Without power, every command but POWER_ON leaves the part as it is;
with power, POWER_ON does. The model's choice of what a command does to a part without power is log entry 7. -/
def Obligations.UnpoweredPartKeepsOnlyTheStore : Prop :=
  (∀ s : State, s.powered = true → ∃ t, exec .powerLoss s = .next t
     ∧ t = { pending := s.pending, free := s.free, powered := false
             store := { settings := t.store.settings, running := t.store.running } }
     ∧ ((∀ i, s.store.activity ≠ .savingSettings i) → t.store.settings = s.store.settings)
     ∧ ((∀ i, s.store.activity ≠ .savingRunning i) → t.store.running = s.store.running)
     ∧ (∀ i, s.store.activity = .savingSettings i → passes settingsBytes t.store.settings = false)
     ∧ (∀ i, s.store.activity = .savingRunning i →
         (s.store.running.contents.hardLatch = false ∨ i.hardLatch = true →
             passes runningBytes t.store.running = false)
           ∧ (s.store.running.contents.hardLatch = true → i.hardLatch = false →
             t.store.running = s.store.running
               ∧ (passes runningBytes s.store.running = true → ∃ u, exec .powerOn t = .next u
                 ∧ u.recovery.state = .hard ∧ u.recovery.records = s.store.running.contents.records
                 ∧ u.burner.state = .hardLocked))))
    ∧ ((∀ (c : Instr) (s : State), s.powered = false → c ≠ .powerOn → exec c s = .next s)
         ∧ ∀ s : State, s.powered = true → exec .powerOn s = .next s)

/-- The burner interlock is kept by every step (R73, R91 to R94, R98). -/
def Obligations.StepKeepsInterlock : Prop :=
  ∀ s t : State, Interlocked s → step s = .next t → Interlocked t

/-- Every relay command and drive keeps following the state through every step (R65, R73, R74, R164). -/
def Obligations.StepKeepsOutputsFollowing : Prop :=
  ∀ s t : State, OutputsFollow s → step s = .next t → OutputsFollow t

/-- The zones stay settled through every step: the floor, acceptance, priority, deferral, valve drives and burner
demand (R55 to R59, R64). -/
def Obligations.StepKeepsZonesSettled : Prop :=
  ∀ s t : State, ZonesSettled s → step s = .next t → ZonesSettled t

/-- The tank gauge and the suspend condition stay settled through every step (R100, R121, R129, R130). -/
def Obligations.StepKeepsGaugeSettled : Prop :=
  ∀ s t : State, GaugeSettled s → step s = .next t → GaugeSettled t

/-- Every bounded list keeps its bound through every step (R10, R77, R101, R105, R126, R149, R170, R174): the
start-time list holds at most 12 entries and the reset-time list at most 6, because starts per hour stay at most 12
and the window budget at most 6 in the settings in force and in the store, which is part of what is kept. -/
def Obligations.StepKeepsListsBounded : Prop :=
  ∀ s t : State, ListsBounded s → step s = .next t → ListsBounded t

/-- State.reset is what POWER_ON makes of an unpowered part whose store passes both checks and holds the factory
settings and no running record. What a store holds that nothing has saved to is the model's choice (log entry 2). The
eight invariants hold at reset. -/
def Obligations.ResetIsPowerOnAndMeetsInvariants : Prop :=
  (exec .powerOn
       { powered := false
         store := { settings := sealArea settingsBytes factoryImage, running := sealArea runningBytes {} } }
     = .next State.reset)
    ∧ (Interlocked State.reset ∧ OutputsFollow State.reset ∧ ZonesSettled State.reset ∧ GaugeSettled State.reset
         ∧ ListsBounded State.reset ∧ EpisodeRecorded State.reset ∧ OutputsHeldOnce State.reset
         ∧ ValvesFollow State.reset)

/-! ## Power and the store -/

/-- POWER_ON of an unpowered part (R41, R69, R96, R117, R152, R153, R163, R195, R196): the clock is unset at 0; the
burner waits its 60 s start delay, or stands HARD_LOCKED with recovery in HARD where the running area restores the
HARD latch; an OPEN record closes INTERRUPTED otherwise; the working settings are the stored ones, or the factory
defaults when their area fails its check; a running area that fails leaves the book UNSET and six pulses of age 0;
each failure is flagged; the areas themselves are kept; and a first STATUS frame goes to both ports. Each station
entry takes its stored configuration with its running state at the start, an entry stored EMPTY keeping its silence
limit alone; each enabled zone is IDLE with its hold timer started, one with a hold time of 0 apart, which falls back
at once; every valve that no such zone holds is CLOSING with its travel timer; and the effective floor is that of an
UNKNOWN tank. That the travel timers run for the travel time of the loaded settings is the model's choice (log entry
34). -/
def Obligations.PowerOnStartsThePart : Prop :=
  ∀ s : State, s.powered = false → ∃ t, exec .powerOn s = .next t
    ∧ t.powered = true ∧ t.pending = s.pending ∧ t.free = s.free
    ∧ t.time = { timeOfDay := 0, day := 0, unset := true, midnight := false }
    ∧ t.settings = (if passes settingsBytes s.store.settings then s.store.settings.contents else factoryImage).settings
    ∧ t.store.settings = s.store.settings ∧ t.store.running = s.store.running ∧ t.store.activity = .idle
    ∧ t.store.settingsFailed = !passes settingsBytes s.store.settings
    ∧ t.store.runningFailed = !passes runningBytes s.store.running
    ∧ t.tank.volume = none ∧ t.tank.state = .unknown ∧ t.tank.window = []
    ∧ t.monitor.burner = {} ∧ t.monitor.reset = {} ∧ t.monitor.preheat = {}
    ∧ t.portA = { status := t.portA.status } ∧ t.portB = { status := t.portA.status } ∧ t.portA.status.isSome
    ∧ t.mgmt = {} ∧ t.alarms.sendTimes = []
    ∧ (let img := if passes settingsBytes s.store.settings then s.store.settings.contents else factoryImage
      (∀ a : Addr, t.station a =
          if img.stations[a].cls = .empty then
            { silence := img.stations[a].silence, countdown := img.settings.pollPeriod }
          else
            { cls := img.stations[a].cls, configured := true, pinned := img.stations[a].pinned
              segment := if img.stations[a].pinned then img.stations[a].segment else none
              silence := img.stations[a].silence, watched := img.stations[a].watched, poll := img.stations[a].poll
              countdown := img.settings.pollPeriod, presence := .unknown, age := 0, last := none, heard := 0
              marks := 0, batteryLow := false })
        ∧ t.table.inFlight = none ∧ t.table.forced = none ∧ t.table.pointer = 30 ∧ t.table.moves = 0
        ∧ t.table.conflicts = 0 ∧ t.table.ownHeard = 0
        ∧ (∀ z : ZoneId, img.settings.zones[z].enable = false → t.zone z = {})
        ∧ (∀ z : ZoneId, img.settings.zones[z].enable = true →
            (0 < img.settings.zones[z].holdTime →
                t.zone z = { demand := .idle, level := 0, hold := some img.settings.zones[z].holdTime })
              ∧ (img.settings.zones[z].holdTime = 0 → (t.zone z).demand = .fallback ∧ (t.zone z).hold = none))
        ∧ (∀ o : OutputId,
            (∀ z : ZoneId, img.settings.zones[z].output = some o →
              img.settings.zones[z].enable = false ∨ 0 < img.settings.zones[z].holdTime) →
            t.valve o =
              { state := .closing, drive := false, switch := none, travel := some img.settings.common.travelTime })
        ∧ (∀ a : Addr, t.unitRecord a = none) ∧ t.zones.overrun = none
        ∧ t.zones.floor = max img.settings.common.mgmtFloor img.settings.common.unknownFloor)
    ∧ (passes settingsBytes s.store.settings = false → isPending t .settingsLost)
    ∧ (passes runningBytes s.store.running = false →
        t.accounts = {} ∧ t.recovery = { resetTimes := [0, 0, 0, 0, 0, 0] } ∧ t.sampler = {}
          ∧ t.burner.state = .delayed ∧ isPending t .runningLost)
    ∧ (passes runningBytes s.store.running = true →
        let run := s.store.running.contents
        t.accounts =
            { residue := run.residue, burned := run.burned, reference := run.reference, leak := run.leak
              lastDelivery := run.lastDelivery, ring := run.ring }
          ∧ t.recovery.resetTimes = run.resetTimes ∧ t.recovery.hardLatch = run.hardLatch
          ∧ t.recovery.suspend = run.leak
          ∧ t.sampler.counters =
            { starts := run.starts, firing := run.firing, lockouts := run.lockouts, autoResets := run.autoResets }
          ∧ if run.hardLatch then
              t.burner.state = .hardLocked ∧ t.burner.startDelay = none ∧ t.recovery.state = .hard
                ∧ t.recovery.records = run.records
            else
              t.burner.state = .delayed ∧ t.burner.startDelay = some 60 ∧ t.recovery.state = .idle
                ∧ t.recovery.records
                  = run.records.map fun r => if r.outcome = .open then { r with outcome := .interrupted } else r)

/-- SAVE_COMPLETE (R193): the area saved holds what the save took at its start and passes its check, the other is
kept, and the area whose pending flag is set is saved next with the working contents as they stand, its flag cleared.
With both flags set, which goes first is left open (log entry 5): the statement allows either. -/
def Obligations.SaveCompleteStartsPendingSave : Prop :=
  ∀ s : State, s.powered = true → s.store.activity ≠ .idle → ∃ t, exec .saveComplete s = .next t
    ∧ t = { s with store := t.store, free := t.free }
    ∧ (∀ i, s.store.activity = .savingSettings i →
        t.store.settings.contents = i ∧ passes settingsBytes t.store.settings = true
          ∧ t.store.running = s.store.running)
    ∧ (∀ i, s.store.activity = .savingRunning i →
        t.store.running.contents = i ∧ passes runningBytes t.store.running = true
          ∧ t.store.settings = s.store.settings)
    ∧ (s.store.settingsPending = false → s.store.runningPending = false → t.store.activity = .idle)
    ∧ (s.store.settingsPending = true → s.store.runningPending = false →
        t.store.activity = .savingSettings (settingsImage s) ∧ t.store.settingsPending = false)
    ∧ (s.store.settingsPending = false → s.store.runningPending = true →
        t.store.activity = .savingRunning (runningImage s) ∧ t.store.runningPending = false)
    ∧ (s.store.settingsPending = true → s.store.runningPending = true →
        t.store.activity = .savingSettings (settingsImage s) ∧ t.store.settingsPending = false
            ∧ t.store.runningPending = true
          ∨ t.store.activity = .savingRunning (runningImage s) ∧ t.store.runningPending = false
            ∧ t.store.settingsPending = true)

/-! ## The time base and the day -/

/-- TIME_BASE_SECOND (R31, R36, R77, R101, R123, R174, R185): the time of day grows by one, wrapping to 0 with the
next day number, and every age and list entry grows by one second and every timer that runs loses one, block by block:
the stations' ages, poll countdowns and duplicate windows and the poll's answer wait; the zones' hold, boost and
priority timers, the travel timers and the pump overrun; the starts' ages, the call clock while a start is in
progress, and the sequencer's eight timers; the pulses' ages and recovery's six timers; the stale timer and the age of
the sender temperature; the spacing timer of the reconciliations; the sends' ages and the two STATUS timers. Nothing
else changes, whatever the time of day. A midnight is handed to the fuel accounts by a flag of the model's own (log
entry 4), and a timer at 0 waits for its expiry to be commanded (log entry 15). That the age of the sender temperature
counts also while the temperature is unknown is the model's choice (log entry 18). MIDNIGHT (R148): a midnight counted
by the time base puts the day's whole litres, at most 65,535, at the end of the ring, of which the last seven days
stay, keeps the millilitres below a litre in the tally, and requests a save of the running area. With TIME_UNSET it
only requests the save. The waiting midnight is a flag of the model's own (log entry 4). -/
def Obligations.TimeBaseCountsAndClosesDays : Prop :=
  (∀ s : State, s.powered = true →
     let down (w : Timer) : Timer := w.map (· - 1)
     ∃ t, exec .timeBaseSecond s = .next t
       ∧ t = { s with
               time := t.time
               table :=
                 { s.table with
                   entries := t.table.entries
                   inFlight := s.table.inFlight.map fun i =>
                     { i with phase := match i.phase with
                         | .sending => .sending
                         | .awaiting w => .awaiting (down w) } }
               zones :=
                 { s.zones with
                   zones := t.zones.zones, valves := t.zones.valves, overrun := down s.zones.overrun }
               burner :=
                 { s.burner with
                   startTimes := s.burner.startTimes.map (· + 1)
                   callClock :=
                     if s.burner.start.isSome then min (s.burner.callClock + 1) 255 else s.burner.callClock
                   startDelay := down s.burner.startDelay, pacing := down s.burner.pacing
                   preheat := down s.burner.preheat, response := down s.burner.response
                   proving := down s.burner.proving, minimumRun := down s.burner.minimumRun
                   flameOut := down s.burner.flameOut, firingSecond := down s.burner.firingSecond }
               recovery :=
                 { s.recovery with
                   resetTimes := s.recovery.resetTimes.map (· + 1)
                   coolDown := down s.recovery.coolDown, release := down s.recovery.release
                   observe := down s.recovery.observe, window := down s.recovery.window
                   service := down s.recovery.service, pulse := down s.recovery.pulse }
               tank := { s.tank with stale := down s.tank.stale, tempAge := min (s.tank.tempAge + 1) 65535 }
               accounts := { s.accounts with spacing := down s.accounts.spacing }
               alarms :=
                 { s.alarms with
                   sendTimes := s.alarms.sendTimes.map (· + 1), spacing := down s.alarms.spacing
                   periodic := down s.alarms.periodic } }
       ∧ (s.time.timeOfDay < 86399 → t.time = { s.time with timeOfDay := s.time.timeOfDay + 1 })
       ∧ (s.time.timeOfDay = 86399 →
           t.time = { s.time with timeOfDay := 0, day := (s.time.day + 1) % 65536, midnight := true })
       ∧ t.station 0 = s.station 0
       ∧ (∀ a : Addr, a ≠ 0 →
           t.station a =
             { s.station a with
               age := min ((s.station a).age + 1) 65535, countdown := (s.station a).countdown - 1
               last := (s.station a).last.map fun l => { l with window := down l.window } })
       ∧ (∀ z : ZoneId,
           t.zone z =
             { s.zone z with
               hold := down (s.zone z).hold, boost := down (s.zone z).boost, priority := down (s.zone z).priority })
       ∧ ∀ o : OutputId, t.valve o = { s.valve o with travel := down (s.valve o).travel })
    ∧ (∀ s : State, s.powered = true → s.time.midnight = true → ∃ t, exec .midnight s = .next t
         ∧ t = { s with time := { s.time with midnight := false }, accounts := t.accounts, store := t.store }
         ∧ (s.time.unset = true → t.accounts = s.accounts)
         ∧ (s.time.unset = false →
             let ring := s.accounts.ring ++ [min (s.accounts.tally / 1000) 65535]
             t.accounts =
               { s.accounts with ring := ring.drop (ring.length - 7), tally := s.accounts.tally % 1000 })
         ∧ (s.store.activity = .idle →
             t.store = { s.store with activity := .savingRunning (runningImage t), runningPending := false })
         ∧ (s.store.activity ≠ .idle → t.store = { s.store with runningPending := true }))

/-! ## The heating line -/

/-- FRAME_ARRIVAL of a frame that fails its check (R3): the arrival segment's check-error count grows, no answer is
given, and nothing else changes. The segment is held for the ack slot or, when the destination byte as it was received
is that of a broadcast, as after a broadcast, which is the model's choice (log entry 36). FRAME_ARRIVAL of a malformed
frame (R4): it is counted and dropped, and answered REJECT, which is counted too, when its destination is above 31 or
is 0 to 30 and not a station recorded on the arrival segment. -/
def Obligations.BadFrameIsCountedAndDropped : Prop :=
  (∀ (s : State) (seg : Segment) (f : Frame), s.powered = true → lineOpen s seg = true → f.payload.length ≤ 8 →
     frameChecks f = false →
     exec (.frameArrival seg f) s = .next (s.setPort seg
       { s.port seg with
         occupancy := if f.dest = 31 then .hold else .slot none
         counts := { (s.port seg).counts with checkErrors := inc16 (s.port seg).counts.checkErrors } }))
    ∧ (∀ (s : State) (seg : Segment) (f : Frame), s.powered = true → lineOpen s seg = true → f.payload.length ≤ 8 →
         frameChecks f = true →
         f.source = 0 ∨ f.source = 31 ∨ 31 < f.dest.toNat
           ∨ (f.kind = 1 ∨ f.kind = 2) ∧ f.payload.length ≠ 5
           ∨ f.kind = 6 ∧ f.dest = 0 ∧ f.payload.length = 0 →
         let counts := { (s.port seg).counts with malformed := inc16 (s.port seg).counts.malformed }
         let rejected := 31 < f.dest.toNat ∨ ∃ d : Addr, f.dest.toNat = d.val ∧ recordedOn s d seg = false
         (rejected → exec (.frameArrival seg f) s = .next (s.setPort seg
           { s.port seg with
             occupancy := .slot (some .reject), counts := { counts with rejects := inc16 counts.rejects } }))
           ∧ (¬ rejected → exec (.frameArrival seg f) s = .next (s.setPort seg
               { s.port seg with occupancy := if f.dest = 31 then .hold else .slot none, counts := counts })))

/-- FRAME_ARRIVAL of a frame whose source is pinned to the other segment (R6, R7, R8, R9, R25): the conflict is
counted and raised, the part answers REJECT where it is the answering party, and the frame is neither accepted nor
forwarded. FRAME_ARRIVAL of a duplicate (R6, R7, R8, R9, R27): it teaches the source's segment and is counted, and is
neither accepted, acted on nor queued again. It is answered ACK when it is addressed to 0, or when the part is the
answering party and the forwarding decision is to cross. FRAME_ARRIVAL of a frame that is not taken now (R5, R6, R7):
an MGMT_REQUEST to 0 from a sender that fails the access test is answered REJECT; one that comes while the management
unit handles another request, and a frame that is to cross to a full queue for which the part answers, are answered
RETRY. The answer is counted; the frame teaches the source's segment (R26) but is not accepted. -/
def Obligations.FrameNotAcceptedIsAnswered : Prop :=
  (∀ (s : State) (seg : Segment) (a : Addr) (f : Frame), s.powered = true → lineOpen s seg = true →
     wellFormedFrom a f → (s.station a).pinned = true → (s.station a).segment = some (otherSegment seg) →
     let raised : State :=
       { s with
         table := { s.table with conflicts := inc16 s.table.conflicts }
         alarms :=
           { s.alarms with
             waiting := raisedSet s .segmentConflict (detailBytes a.val (segmentCode (some seg)) 0) } }
     exec (.frameArrival seg f) s = .next (raised.setPort seg
       (if partAnswers s seg f then
         { s.port seg with
           occupancy := .slot (some .reject)
           counts := { (s.port seg).counts with rejects := inc16 (s.port seg).counts.rejects } }
       else { s.port seg with occupancy := if f.dest = 31 then .hold else .slot none })))
    ∧ (∀ (s : State) (seg : Segment) (a : Addr) (f : Frame) (l : LastAccepted), s.powered = true →
         lineOpen s seg = true → wellFormedFrom a f → conflicts seg (s.station a) = false →
         (s.station a).last = some l → l.kind = f.kind → l.seq = f.seq → l.window.isSome = true →
         exec (.frameArrival seg f) s = .next (({ s with table := learnedTable s seg a } : State).setPort seg
           { s.port seg with
             occupancy :=
               if f.dest = 31 then .hold
               else .slot (if f.dest = 0 ∨ partAnswers s seg f = true ∧ crosses s seg f = true then some .ack else none)
             counts := { (s.port seg).counts with duplicates := inc16 (s.port seg).counts.duplicates } }))
    ∧ (∀ (s : State) (seg : Segment) (a : Addr) (f : Frame), s.powered = true → lineOpen s seg = true →
         wellFormedFrom a f → conflicts seg (s.station a) = false → isDuplicate f (s.station a) = false →
         let c := (s.port seg).counts
         let after (answer : Answer) (counts : LineCounts) : State :=
           ({ s with table := learnedTable s seg a } : State).setPort seg
             { s.port seg with occupancy := .slot (some answer), counts := counts }
         (f.dest = 0 → f.kind = 6 → rightsOf s a = none →
             exec (.frameArrival seg f) s = .next (after .reject { c with rejects := inc16 c.rejects }))
           ∧ (f.dest = 0 → f.kind = 6 → rightsOf s a ≠ none → s.mgmt.hand ≠ none →
             exec (.frameArrival seg f) s = .next (after .retry { c with retries := inc16 c.retries }))
           ∧ (f.dest ≠ 0 → partAnswers s seg f = true → crosses s seg f = true →
               8 ≤ (s.port (otherSegment seg)).queue.length →
             exec (.frameArrival seg f) s = .next (after .retry { c with retries := inc16 c.retries })))

/-- FRAME_ARRIVAL of a frame that is accepted (R5 to R9, R26, R28, R29, R45), requests to the part apart: the source's
entry takes the frame as its last accepted one with a 2 s duplicate window, is PRESENT at age 0 with no missed marks,
and learns its class, with that class's silence limit, when it was EMPTY; other entries are untouched. It joins the
crossing queue when the decision is to cross and there is room, with its loss counted when there is none; it is
answered ACK where it is addressed to 0 or the part takes it for the other segment, and is not answered otherwise. A
DEMAND of a ROOM_UNIT becomes its unit record, its setpoint read as a signed number (log entry 20). What an accepted
frame does at the zones (R44 to R51): a DEMAND of a ROOM_UNIT re-evaluates every enabled zone that binds its source,
which then has a present unit, so that its hold timer stops; the zone is CALLING when this frame or another present
unit of it calls, and IDLE else; a boost edge loads the boost of a ROOM or CYLINDER zone with its period, and a frame
that loads none ends the boost where it leaves every present unit satisfied. A frame of a kind that no block takes
re-evaluates the zones of a source that it makes PRESENT or that learns its class, and leaves every zone else. -/
def Obligations.AcceptedFrameIsRecordedAndForwarded : Prop :=
  (∀ (s : State) (seg : Segment) (a : Addr) (f : Frame), s.powered = true → lineOpen s seg = true →
     wellFormedFrom a f → conflicts seg (s.station a) = false → isDuplicate f (s.station a) = false →
     ¬ (f.dest = 0 ∧ f.kind = 6) →
     let full := 8 ≤ (s.port (otherSegment seg)).queue.length
     let agent := f.dest ≠ 0 ∧ partAnswers s seg f = true
     let cross := f.dest ≠ 0 ∧ crosses s seg f = true
     ¬ (agent ∧ cross ∧ full) →
     ∃ t, exec (.frameArrival seg f) s = .next t
       ∧ (t.station a).last = some { kind := f.kind, seq := f.seq, window := some 2 }
       ∧ (t.station a).age = 0 ∧ (t.station a).presence = .present ∧ (t.station a).marks = 0
       ∧ (t.station a).heard = inc16 (s.station a).heard ∧ (t.station a).countdown = s.settings.pollPeriod
       ∧ (t.station a).segment = (learned seg (s.station a)).segment
       ∧ (t.station a).cls = (if (s.station a).cls = .empty then learnedClass f.kind else (s.station a).cls)
       ∧ ((s.station a).cls = .empty → (t.station a).configured = false
           ∧ (t.station a).silence = if f.kind = 2 then 3600 else 900)
       ∧ ((s.station a).cls ≠ .empty → (t.station a).configured = (s.station a).configured
           ∧ (t.station a).silence = (s.station a).silence)
       ∧ (∀ b, b ≠ a → t.station b = s.station b)
       ∧ (t.port seg).occupancy
           = (if f.dest = 31 then .hold else .slot (if f.dest = 0 ∨ agent ∧ cross then some .ack else none))
       ∧ (cross → ¬ full →
           (t.port (otherSegment seg)).queue
             = (s.port (otherSegment seg)).queue ++ [{ frame := f, unicast := isUnicast f }])
       ∧ (¬ cross ∨ full → (t.port (otherSegment seg)).queue = (s.port (otherSegment seg)).queue)
       ∧ (t.port seg).queue = (s.port seg).queue
       ∧ (cross → full →
           (t.port seg).counts = { (s.port seg).counts with dropped := inc16 (s.port seg).counts.dropped })
       ∧ (¬ cross ∨ ¬ full → (t.port seg).counts = (s.port seg).counts)
       ∧ (f.kind = 1 → (t.station a).cls = .roomUnit → t.unitRecord a = some (demandRecord f))
       ∧ t.settings = s.settings ∧ t.mgmt = s.mgmt ∧ t.time = s.time)
    ∧ (∀ (s : State) (seg : Segment) (a : Addr) (f : Frame), s.powered = true → lineOpen s seg = true →
         wellFormedFrom a f → conflicts seg (s.station a) = false → isDuplicate f (s.station a) = false →
         ¬ (f.dest ≠ 0 ∧ partAnswers s seg f = true ∧ crosses s seg f = true
           ∧ 8 ≤ (s.port (otherSegment seg)).queue.length) →
         let e := s.station a
         let report := demandRecord f
         let before := if e.cls = .empty then none else s.unitRecord a
         let edge := report.boostSeen && before.map (·.boostSeen) != some true
         let taken (t : State) : State := { s with table := t.table, zones := { s.zones with units := t.zones.units } }
         (f.kind = 1 → e.cls = .roomUnit ∨ e.cls = .empty → ∃ t, exec (.frameArrival seg f) s = .next t
             ∧ ∀ z : ZoneId,
               let c := s.zoneCfg z
               let r := t.zone z
               let bound := c.enable = true ∧ a ∈ c.binding
               let calls := report.call = true ∨ ∃ b ∈ c.binding, b ≠ a ∧ isPresent s b = true ∧ lastCall s b = true
               let loads := edge = true ∧ c.type ≠ .outbuilding
               (¬ bound → sameCall r (s.zone z))
                 ∧ (bound →
                     r.hadPresent = true ∧ r.hold = none ∧ r.heldCall = (s.zone z).heldCall
                       ∧ (calls → r.demand = .calling) ∧ (¬ calls → r.demand = .idle)
                       ∧ (loads → r.boost = some c.boostPeriod) ∧ (¬ loads → ¬ calls → r.boost = none)
                       ∧ (¬ loads → calls → r.boost = (s.zone z).boost)
                       ∧ r.accepted = decideAccepted s.zones.floor r.level
                       ∧ (e.cls = .roomUnit → e.presence = .present →
                           sameCall r ((reevalZone (.demandFrame edge) z (taken t)).zone z))))
           ∧ (f.kind ≠ 1 → f.kind ≠ 2 → f.kind ≠ 6 → ∃ t, exec (.frameArrival seg f) s = .next t
             ∧ (e.presence = .present → e.cls ≠ .empty → t.zones.zones = s.zones.zones)
             ∧ (e.presence ≠ .present ∨ e.cls = .empty → ∀ z : ZoneId,
                 let bound := (s.zoneCfg z).enable = true ∧ a ∈ (s.zoneCfg z).binding
                 (bound → sameCall (t.zone z) ((reevalZone .other z (taken t)).zone z))
                   ∧ (¬ bound → sameCall (t.zone z) (s.zone z)))))

/-- FRAME_ARRIVAL of an MGMT_REQUEST to the part that is accepted (R6, R15, R30, R179): the part answers ACK, and the
management unit holds the request, with the arrival segment, the sequence and the command code the frame carried, and
the reply it built. Its source's entry is accepted as for any frame (R28, R29, R38): a last accepted record with its 2
s window, PRESENT at age 0 with no missed marks, its poll completed, its class kept (an EMPTY entry, which can ask
while the SERVICE input is closed, learns OTHER), and one more frame heard by the part. What the request does, and the
reply, are those of the row of the command table that carries the same code and argument bytes, taken on the part as
acceptance leaves it. -/
def Obligations.RequestFrameReachesManagement : Prop :=
  ∀ (s : State) (seg : Segment) (a : Addr) (f : Frame) (rights : Rights), s.powered = true →
    lineOpen s seg = true → wellFormedFrom a f → conflicts seg (s.station a) = false →
    isDuplicate f (s.station a) = false → f.dest = 0 → f.kind = 6 → rightsOf s a = some rights →
    s.mgmt.hand = none →
    ∃ t h, exec (.frameArrival seg f) s = .next t ∧ t.mgmt.hand = some h
      ∧ h.requester = { station := a, segment := seg, seq := f.seq } ∧ h.rights = rights
      ∧ h.code = f.payload.headD 0 ∧ h.args = f.payload.drop 1 ∧ h.reply.isSome = true
      ∧ t.mgmt.handled = inc16 s.mgmt.handled ∧ (t.port seg).occupancy = .slot (some .ack)
      ∧ ∃ u, (u.station a).last = some { kind := f.kind, seq := f.seq, window := some 2 }
        ∧ (u.station a).age = 0 ∧ (u.station a).presence = .present ∧ (u.station a).marks = 0
        ∧ (u.station a).heard = inc16 (s.station a).heard ∧ (u.station a).countdown = s.settings.pollPeriod
        ∧ (u.station a).segment = (learned seg (s.station a)).segment
        ∧ (if (s.station a).cls = .empty then
            (u.station a).cls = .other ∧ (u.station a).configured = false ∧ (u.station a).silence = 900
          else
            (u.station a).cls = (s.station a).cls ∧ (u.station a).configured = (s.station a).configured
              ∧ (u.station a).silence = (s.station a).silence)
        ∧ (∀ b, u.unitRecord b = if b = a ∧ (s.station a).cls = .empty then none else s.unitRecord b)
        ∧ u.table.ownHeard = inc16 s.table.ownHeard ∧ (∀ b, b ≠ a → u.station b = s.station b)
        ∧ ((s.table.inFlight.map (·.station) = some a → (∀ b, (s.station b).poll = false) → s.table.forced = none →
            u.table.inFlight = none))
        ∧ u = { zonesTouched s u with
                zones := { u.zones with floor := s.zones.floor }
                table := u.table
                portA := { s.portA with occupancy := u.portA.occupancy, poll := u.portA.poll
                                        nextPoll := u.portA.nextPoll, status := u.portA.status }
                portB := { s.portB with occupancy := u.portB.occupancy, poll := u.portB.poll
                                        nextPoll := u.portB.nextPoll, status := u.portB.status } }
        ∧ ∀ (c : Instr) (code : Byte) (args : List Byte),
          requestOf c = some ({ station := a, segment := seg, seq := f.seq }, code, args) →
          f.payload = code :: args →
          exec c u = .next (t.setPort seg { t.port seg with occupancy := (u.port seg).occupancy })

/-- The forwarding decision, which is taken for a frame that is not addressed to 0 (R24, R34, R35): a rule matches a
frame when it is enabled, the frame's source and destination have the bits of the rule's values wherever the masks
hold 0, the kind is in the kind set, and the ingress is EITHER or the arrival segment; the first matching rule
decides, PASS leaves it to the default, and by default a frame does not cross exactly when it is addressed to a
station recorded on its arrival segment. -/
def Obligations.FirstMatchingRuleElseDefaultForwards : Prop :=
  (∀ (r : ForwardRule) (seg : Segment) (f : Frame), ruleMatches seg f r = true ↔
    r.enable = true
      ∧ (∀ i : Fin 5, r.sourceMask.getLsbD i.val = false → f.source.getLsbD i.val = r.sourceValue.getLsbD i.val)
      ∧ (∀ i : Fin 5, r.destMask.getLsbD i.val = false → f.dest.getLsbD i.val = r.destValue.getLsbD i.val)
      ∧ r.kinds.getLsbD f.kind.toNat = true
      ∧ (r.ingress = .either ∨ r.ingress = .a ∧ seg = .a ∨ r.ingress = .b ∧ seg = .b))
  ∧ ∀ (s : State) (seg : Segment) (f : Frame), f.dest ≠ 0 →
    let stays := ∃ d : Addr, f.dest.toNat = d.val ∧ recordedOn s d seg = true
    ((∀ i : Fin 16, ruleMatches seg f s.settings.rules[i] = false) → (crosses s seg f = false ↔ stays))
      ∧ ∀ i : Fin 16, ruleMatches seg f s.settings.rules[i] = true →
        (∀ j : Fin 16, j < i → ruleMatches seg f s.settings.rules[j] = false) →
        (s.settings.rules[i].action = .forward → crosses s seg f = true)
          ∧ (s.settings.rules[i].action = .block → crosses s seg f = false)
          ∧ (s.settings.rules[i].action = .pass → (crosses s seg f = false ↔ stays))

/-- FRAME_START, FRAME_ABANDON and CHARACTER_GAP_EXPIRY (R1, R2): a start bit makes the segment occupied by a frame
being assembled; a missing stop bit or a gap above 4 ms is a check error, a payload length above 8 a malformed frame,
and the segment then waits for a quiet line. A port that is sending receives nothing. That an error on a free segment
is counted, and that a start inside the quiet time is received, is read from the rules (log entry 16). ACK_SLOT_CLOSE
of a slot that is not the part's own, of the hold after a broadcast, or of the quiet time after an abandoned frame,
makes the segment free; an answer character that began in the slot and is still arriving keeps it occupied until that
character has ended (log entry 36). In such a slot an answer changes nothing and any other character starts a new
frame (R2); after a broadcast there is no slot, so that every character does, and so it is taken on a free or a quiet
segment (log entry 16). While the segment is occupied nothing is sent. RETRY_WAIT_EXPIRY makes the waiting frame ready
again (R1, R2, R12, R16). -/
def Obligations.SegmentIsTakenAndFreed : Prop :=
  (∀ (s : State) (seg : Segment), s.powered = true →
     let c := (s.port seg).counts
     let quiet (counts : LineCounts) : State := s.setPort seg { s.port seg with occupancy := .quiet, counts := counts }
     (lineOpen s seg = true →
         exec (.frameStart seg) s = .next (s.setPort seg { s.port seg with occupancy := .receiving })
           ∧ exec (.frameAbandon seg .missingStop) s = .next (quiet { c with checkErrors := inc16 c.checkErrors })
           ∧ exec (.frameAbandon seg .lengthAboveEight) s = .next (quiet { c with malformed := inc16 c.malformed })
           ∧ exec (.characterGapExpiry seg) s = .next (quiet { c with checkErrors := inc16 c.checkErrors }))
       ∧ (isSending s seg = true →
         exec (.frameStart seg) s = .next s ∧ (∀ cause, exec (.frameAbandon seg cause) s = .next s)
           ∧ exec (.characterGapExpiry seg) s = .next s ∧ ∀ f, exec (.frameArrival seg f) s = .next s))
    ∧ (∀ (s : State) (seg : Segment), s.powered = true →
         let p := s.port seg
         ((∃ answer, p.occupancy = .slot answer) →
             exec (.ackSlotClose ⟨seg, false⟩) s = .next (s.setPort seg { p with occupancy := .free })
               ∧ exec (.ackSlotClose ⟨seg, true⟩) s = .next (s.setPort seg { p with occupancy := .late none })
               ∧ (∀ c, c = 0x6A ∨ c = 0x95 ∨ c = 0xC9 → exec (.answerCharacterReceived seg c) s = .next s)
               ∧ ∀ c, c ≠ 0x6A → c ≠ 0x95 → c ≠ 0xC9 →
                   exec (.answerCharacterReceived seg c) s = .next (s.setPort seg { p with occupancy := .receiving }))
           ∧ (p.occupancy = .hold ∨ p.occupancy = .quiet → ∀ arriving,
             exec (.ackSlotClose ⟨seg, arriving⟩) s = .next (s.setPort seg { p with occupancy := .free }))
           ∧ (p.occupancy = .hold ∨ p.occupancy = .quiet ∨ p.occupancy = .free → ∀ c,
             exec (.answerCharacterReceived seg c) s = .next (s.setPort seg { p with occupancy := .receiving }))
           ∧ (p.occupancy ≠ .free → exec (.transmitSelection seg) s = .next s)
           ∧ (p.occupancy = .late none →
             (∀ c, c = 0x6A ∨ c = 0x95 ∨ c = 0xC9 →
               exec (.answerCharacterReceived seg c) s = .next (s.setPort seg { p with occupancy := .free }))
               ∧ (∀ arriving, exec (.ackSlotClose ⟨seg, arriving⟩) s = .next s))
           ∧ (∀ e q, p.queue = e :: q →
             exec (.retryWaitExpiry seg .crossing) s
               = .next (s.setPort seg { p with queue := { e with wait := none } :: q }))
           ∧ (∀ e, p.reply = some e →
             exec (.retryWaitExpiry seg .reply) s
               = .next (s.setPort seg { p with reply := some { e with wait := none } }))
           ∧ ∀ e, p.poll = some e →
             exec (.retryWaitExpiry seg .poll) s
               = .next (s.setPort seg { p with poll := some { e with wait := none } }))

/-- TRANSMIT_SELECTION (R17): on a free segment the first ready candidate is sent, in the order reply, poll, alarm,
status, head of the crossing queue; a unicast candidate in its retry wait is passed over, and with none ready nothing
happens. -/
def Obligations.SelectionTakesFirstReadyCandidate : Prop :=
  ∀ (s : State) (seg : Segment), s.powered = true → (s.port seg).occupancy = .free →
    let p := s.port seg
    let send (which : Candidate) (f : Frame) : Prop :=
      exec (.transmitSelection seg) s = .next (s.setPort seg { p with occupancy := .sending which f })
    let ready (e : Option SlotEntry) (f : Frame) : Prop := ∃ x, e = some x ∧ x.wait = none ∧ x.frame = f
    let passed (e : Option SlotEntry) : Prop := ∀ x, e = some x → x.wait ≠ none
    let headReady (f : Frame) : Prop :=
      ∃ x q, p.queue = x :: q ∧ (x.unicast = false ∨ x.wait = none) ∧ x.frame = f
    (∀ f, ready p.reply f → send .reply f)
      ∧ (∀ f, passed p.reply → ready p.poll f → send .poll f)
      ∧ (∀ f, passed p.reply → passed p.poll → p.alarm = some f → send .alarm f)
      ∧ (∀ f, passed p.reply → passed p.poll → p.alarm = none → p.status = some f → send .status f)
      ∧ (∀ f, passed p.reply → passed p.poll → p.alarm = none → p.status = none → headReady f → send .crossing f)
      ∧ (passed p.reply → passed p.poll → p.alarm = none → p.status = none → (∀ f, ¬ headReady f) →
          exec (.transmitSelection seg) s = .next s)

/-- FRAME_SENT (R1, R11, R12, R15, R16): a broadcast frame leaves its place at once, and the segment is held with no
ack slot; a unicast frame stays in its place with one attempt more, and its ack slot opens. -/
def Obligations.SentFrameLeavesOrAwaitsAnswer : Prop :=
  ∀ (s : State) (seg : Segment) (f : Frame), s.powered = true →
    let p := s.port seg
    let after (q : Port) : Host.Outcome State Fault Refusal := .next (s.setPort seg q)
    (f.dest = 31 → p.occupancy = .sending .alarm f →
        exec (.frameSent seg) s = after { p with alarm := none, occupancy := .hold })
      ∧ (f.dest = 31 → p.occupancy = .sending .status f → p.status = some f →
        exec (.frameSent seg) s = after { p with status := none, occupancy := .hold })
      ∧ (∀ e q, f.dest = 31 → p.occupancy = .sending .crossing f → p.queue = e :: q →
        exec (.frameSent seg) s = after { p with queue := q, occupancy := .hold })
      ∧ (∀ e q, f.dest ≠ 31 → p.occupancy = .sending .crossing f → p.queue = e :: q →
        exec (.frameSent seg) s
          = after { p with queue := { e with attempts := e.attempts + 1 } :: q, occupancy := .awaiting .crossing f })
      ∧ (∀ e, f.dest ≠ 31 → p.occupancy = .sending .reply f → p.reply = some e →
        exec (.frameSent seg) s
          = after { p with reply := some { e with attempts := e.attempts + 1 }, occupancy := .awaiting .reply f })
      ∧ ∀ e, f.dest ≠ 31 → p.occupancy = .sending .poll f → p.poll = some e →
        exec (.frameSent seg) s
          = after { p with poll := some { e with attempts := e.attempts + 1 }, occupancy := .awaiting .poll f }

/-- ANSWER_CHARACTER_RECEIVED, ACK_SLOT_CLOSE and FRAME_START in the ack slot of a crossing frame (R1, R12, R13), and
after the slot has closed on an answer character that began in it and is still arriving, which keeps the segment
occupied until it has ended (log entry 36): ACK sends the frame off; RETRY below four attempts starts a wait of 100
ms, and silence, which any other character and the start of a frame count as too, one of 250 ms; REJECT, or the fourth
attempt without ACK, makes it undelivered: it leaves the queue, it is counted, and a missed mark is added to its
destination. The answers to an MGMT_REPLY of the part (R1, R12, R16): ACK empties the reply slot; RETRY below four
attempts starts a wait of 100 ms and silence one of 250 ms; REJECT, or the fourth attempt without ACK, makes it
undelivered, which is counted and reported as a missed mark of the requester, and it is not sent again. The answers to
a POLL of the part (R1, R12, R16, R38): ACK empties its slot, starts the 2 s answer wait and withdraws a second copy
from the other port, at once or, in the middle of its attempt, at the end of it; RETRY and silence below four attempts
start its wait; and a copy withdrawn in the middle of its attempt leaves its slot at the end of that attempt whatever
the answer, which nothing is told of. A later POLL that waited for the slot takes it. -/
def Obligations.AnswerDecidesCrossingAttempt : Prop :=
  (∀ (s : State) (seg : Segment) (f : Frame) (e : QueueEntry) (q : List QueueEntry) (d : Addr) (late : Bool),
     s.powered = true →
     (s.port seg).occupancy = (if late then .late (some (.crossing, f)) else .awaiting .crossing f) →
     (s.port seg).queue = e :: q → addrOf f.dest = some d →
     let p := s.port seg
     let held : Occupancy := if late then .free else .slot none
     let after (o : Occupancy) (queue : List QueueEntry) : Host.Outcome State Fault Refusal :=
       .next (s.setPort seg { p with occupancy := o, queue := queue })
     let lost (c : Instr) : Prop := ∃ t, exec c s = .next t
       ∧ (t.port seg).queue = q
       ∧ (t.port seg).counts = { p.counts with undelivered := inc16 p.counts.undelivered }
       ∧ t.port (otherSegment seg) = { s.port (otherSegment seg) with status := (t.port (otherSegment seg)).status }
       ∧ t.station d = markedStation (s.station d) ∧ (∀ b, b ≠ d → t.station b = s.station b)
       ∧ (s.settings.alarms.undelivered = true → isPending t .undelivered)
       ∧ t.settings = s.settings ∧ t.mgmt = s.mgmt ∧ t.accounts = s.accounts ∧ t.tank = s.tank ∧ t.store = s.store
     let silent (c : Instr) (o : Occupancy) : Prop :=
       (e.attempts < 4 → exec c s = after o ({ e with wait := some 250 } :: q)) ∧ (4 ≤ e.attempts → lost c)
     exec (.answerCharacterReceived seg 0x6A) s = after held q
       ∧ (e.attempts < 4 →
           exec (.answerCharacterReceived seg 0x95) s = after held ({ e with wait := some 100 } :: q))
       ∧ (4 ≤ e.attempts → lost (.answerCharacterReceived seg 0x95))
       ∧ lost (.answerCharacterReceived seg 0xC9)
       ∧ (late = false → silent (.ackSlotClose ⟨seg, false⟩) .free
           ∧ exec (.ackSlotClose ⟨seg, true⟩) s = after (.late (some (.crossing, f))) (e :: q))
       ∧ (late = true → ∀ arriving, exec (.ackSlotClose ⟨seg, arriving⟩) s = .next s)
       ∧ silent (.frameStart seg) .receiving
       ∧ ∀ c, c ≠ 0x6A → c ≠ 0x95 → c ≠ 0xC9 → silent (.answerCharacterReceived seg c) .receiving)
    ∧ (∀ (s : State) (seg : Segment) (f : Frame) (e : SlotEntry) (d : Addr) (late : Bool), s.powered = true →
         (s.port seg).occupancy = (if late then .late (some (.reply, f)) else .awaiting .reply f) →
         (s.port seg).reply = some e → addrOf f.dest = some d →
         let p := s.port seg
         let held : Occupancy := if late then .free else .slot none
         let after (o : Occupancy) (r : Option SlotEntry) : Host.Outcome State Fault Refusal :=
           .next (s.setPort seg { p with occupancy := o, reply := r })
         let lost (c : Instr) : Prop := ∃ t, exec c s = .next t
           ∧ (t.port seg).reply = none
           ∧ (t.port seg).counts = { p.counts with undelivered := inc16 p.counts.undelivered }
           ∧ (t.port seg).queue = p.queue ∧ (t.port seg).poll = p.poll
           ∧ t.station d = markedStation (s.station d) ∧ (∀ b, b ≠ d → t.station b = s.station b)
           ∧ (s.settings.alarms.undelivered = true → isPending t .undelivered)
           ∧ t.mgmt = s.mgmt ∧ t.settings = s.settings ∧ t.table.inFlight = s.table.inFlight
         let silent (c : Instr) (o : Occupancy) : Prop :=
           (e.attempts < 4 → exec c s = after o (some { e with wait := some 250 })) ∧ (4 ≤ e.attempts → lost c)
         exec (.answerCharacterReceived seg 0x6A) s = after held none
           ∧ (e.attempts < 4 →
               exec (.answerCharacterReceived seg 0x95) s = after held (some { e with wait := some 100 }))
           ∧ (4 ≤ e.attempts → lost (.answerCharacterReceived seg 0x95))
           ∧ lost (.answerCharacterReceived seg 0xC9)
           ∧ (late = false → silent (.ackSlotClose ⟨seg, false⟩) .free)
           ∧ silent (.frameStart seg) .receiving)
    ∧ (∀ (s : State) (seg : Segment) (f : Frame) (e : SlotEntry) (late : Bool), s.powered = true →
         (s.port seg).occupancy = (if late then .late (some (.poll, f)) else .awaiting .poll f) →
         (s.port seg).poll = some e →
         let p := s.port seg
         let held : Occupancy := if late then .free else .slot none
         let next : Option SlotEntry := p.nextPoll.map fun g => { frame := g, attempts := 0, wait := none }
         let emptied (o : Occupancy) : Port := { p with occupancy := o, poll := next, nextPoll := none }
         let waits (o : Occupancy) (ms : Nat) : Host.Outcome State Fault Refusal :=
           .next (s.setPort seg { p with occupancy := o, poll := some { e with wait := some ms } })
         (e.withdrawn = true →
             (∀ c, c = 0x6A ∨ c = 0x95 ∨ c = 0xC9 →
               exec (.answerCharacterReceived seg c) s = .next (s.setPort seg (emptied held)))
               ∧ (late = false → exec (.ackSlotClose ⟨seg, false⟩) s = .next (s.setPort seg (emptied .free)))
               ∧ exec (.frameStart seg) s = .next (s.setPort seg (emptied .receiving)))
           ∧ (e.withdrawn = false →
             (e.attempts < 4 →
               exec (.answerCharacterReceived seg 0x95) s = waits held 100
                 ∧ (late = false → exec (.ackSlotClose ⟨seg, false⟩) s = waits .free 250)
                 ∧ exec (.frameStart seg) s = waits .receiving 250)
               ∧ (∀ i, s.table.inFlight = some i → ∃ t, exec (.answerCharacterReceived seg 0x6A) s = .next t
                 ∧ t.port seg = emptied held
                 ∧ t.table = { s.table with inFlight := some { i with phase := .awaiting (some 2) } }
                 ∧ (let o := otherSegment seg
                   let copied := match o with
                     | .a => i.onA && !i.undeliveredA
                     | .b => i.onB && !i.undeliveredB
                   let q := s.port o
                   (copied = false → t.port o = q)
                     ∧ (copied = true → q.nextPoll = none → pollUnderWay q = false → t.port o = { q with poll := none })
                     ∧ (copied = true → q.nextPoll = none → pollUnderWay q = true →
                         t.port o = { q with poll := q.poll.map fun x => { x with withdrawn := true } })
                     ∧ (copied = true → q.nextPoll ≠ none → t.port o = { q with nextPoll := none }))
                 ∧ t = { s with portA := t.portA, portB := t.portB, table := t.table })))

/-! ## Stations -/

/-- DUPLICATE_WINDOW_EXPIRY (R27): the window of the last accepted frame ends, so that its repeat is a new frame.
SILENCE_LIMIT_REACHED and ABSENCE_POINT_REACHED (R31, R33): an entry that is not EMPTY becomes SILENT at its silence
limit while PRESENT or UNKNOWN, and ABSENT at three times that, or 65,535; a watched entry raises the alarm of the
state it enters, and every enabled zone that binds the station is re-evaluated (R44, R46). Nothing else of the table
changes. -/
def Obligations.StationTimesRunOut : Prop :=
  (∀ (s : State) (a : Addr) (l : LastAccepted), s.powered = true → (s.station a).last = some l →
     l.window = some 0 →
     exec (.duplicateWindowExpiry a) s
         = .next (s.setStation a { s.station a with last := some { l with window := none } })
       ∧ ∀ f, isDuplicate f { s.station a with last := some { l with window := none } } = false)
    ∧ (∀ (s : State) (a : Addr), s.powered = true → a ≠ 0 → (s.station a).cls ≠ .empty →
         let e := s.station a
         let entered (c : Instr) (p : Presence) (k : AlarmKind) : Prop := ∃ t, exec c s = .next t
           ∧ t.table = { (s.setStation a { e with presence := p }).table with ownLast := t.table.ownLast }
           ∧ (e.watched = true → enableOf s.settings.alarms k = true → isPending t k)
           ∧ t = { zonesTouched s t with table := t.table }
           ∧ ∀ z : ZoneId,
               let bound := (s.zoneCfg z).enable = true ∧ a ∈ (s.zoneCfg z).binding
               (bound → sameCall (t.zone z) ((reevalZone .other z { s with table := t.table }).zone z))
                 ∧ (¬ bound → sameCall (t.zone z) (s.zone z))
         ((e.presence = .present ∨ e.presence = .unknown) → e.silence ≤ e.age → e.age < min (3 * e.silence) 65535 →
             entered (.silenceLimitReached a) .silent .stationSilent)
           ∧ (e.presence ≠ .absent → min (3 * e.silence) 65535 ≤ e.age →
             entered (.absencePointReached a) .absent .stationAbsent))

/-- Missed marks of the entries 1 to 30 (R23, R32): each adds one, up to three; the mark that makes three makes an
entry that is not EMPTY ABSENT. POLL_ANSWER_WAIT_EXPIRY (R32, R36, R38): the polled station that did not answer takes
a missed mark, its countdown is loaded with the poll period, and the poll in flight is over. UNDELIVERED is not
raised: its entry of the pending set, or its absence from it, stands as before. A POLL that becomes undelivered on a
port, by REJECT (R16, R32, R36, R38): it leaves its slot and is counted. While its copy on the other segment is still
to be decided nothing more happens; when it was the only copy, or the last, the station takes one missed mark, with
UNDELIVERED, its countdown is loaded and the poll is over. A poll completed by an accepted frame of its station (R28,
R36, R38): no mark is added, the countdown is loaded, and the poll is over; a POLL still in its SENDING phase is
withdrawn from each slot that holds it, at once or, in the middle of an attempt, at the end of it. -/
def Obligations.MissedMarksMakeAbsent : Prop :=
  (∀ (s : State) (a : Addr), a ≠ 0 →
     let e := s.station a
     let t := addMark a s
     (e.marks < 3 → (t.station a).marks = e.marks + 1) ∧ (3 ≤ e.marks → (t.station a).marks = 3)
       ∧ (e.marks = 2 → e.cls ≠ .empty → (t.station a).presence = .absent)
       ∧ (e.marks ≠ 2 ∨ e.cls = .empty → (t.station a).presence = e.presence)
       ∧ ∀ b, b ≠ a → t.station b = s.station b)
    ∧ (∀ (s : State) (i : InFlight), s.powered = true → s.table.inFlight = some i → i.phase = .awaiting (some 0) →
         ∃ t, exec .pollAnswerWaitExpiry s = .next t
           ∧ t.station i.station = { markedStation (s.station i.station) with countdown := s.settings.pollPeriod }
           ∧ (∀ b, b ≠ i.station → t.station b = s.station b)
           ∧ (t.alarms.waiting.filter fun e => e.kind == .undelivered)
             = (s.alarms.waiting.filter fun e => e.kind == .undelivered)
           ∧ t.table.inFlight.map (·.phase) ≠ some (.awaiting (some 0))
           ∧ ((∀ b, (s.station b).poll = false) → s.table.forced = none → t.table.inFlight = none)
           ∧ t.settings = s.settings ∧ t.mgmt = s.mgmt ∧ t.tank = s.tank ∧ t.accounts = s.accounts ∧ t.store = s.store)
    ∧ (∀ (s : State) (seg : Segment) (f : Frame) (e : SlotEntry) (i : InFlight), s.powered = true →
         (s.port seg).occupancy = .awaiting .poll f → (s.port seg).poll = some e → e.withdrawn = false →
         s.table.inFlight = some i →
         let p := s.port seg
         let otherCopy := match seg with
           | .a => i.onB && !i.undeliveredB
           | .b => i.onA && !i.undeliveredA
         ∃ t, exec (.answerCharacterReceived seg 0xC9) s = .next t
           ∧ (t.port seg).counts = { p.counts with undelivered := inc16 p.counts.undelivered }
           ∧ (otherCopy = true →
               t.port seg =
                   { p with
                     occupancy := .slot none, nextPoll := none
                     poll := p.nextPoll.map fun g => { frame := g, attempts := 0, wait := none }
                     counts := { p.counts with undelivered := inc16 p.counts.undelivered } }
                 ∧ t.port (otherSegment seg) = s.port (otherSegment seg)
                 ∧ t.table = { s.table with inFlight := some (copyLost seg i) }
                 ∧ t = { s with portA := t.portA, portB := t.portB, table := t.table })
           ∧ (otherCopy = false →
               t.station i.station = { markedStation (s.station i.station) with countdown := s.settings.pollPeriod }
                 ∧ (∀ b, b ≠ i.station → t.station b = s.station b)
                 ∧ (s.settings.alarms.undelivered = true → isPending t .undelivered)
                 ∧ ((∀ b, (s.station b).poll = false) → s.table.forced = none →
                     t.table.inFlight = none ∧ (p.nextPoll = none → (t.port seg).poll = none))))
    ∧ (∀ (s : State) (seg : Segment) (a : Addr) (f : Frame) (i : InFlight), s.powered = true → lineOpen s seg = true →
         wellFormedFrom a f → conflicts seg (s.station a) = false → isDuplicate f (s.station a) = false →
         f.kind ≠ 6 → f.dest = 0 → s.table.inFlight = some i → i.station = a →
         ∃ t, exec (.frameArrival seg f) s = .next t
           ∧ (t.station a).marks = 0 ∧ (t.station a).countdown = s.settings.pollPeriod
           ∧ ((∀ b, (s.station b).poll = false) → s.table.forced = none →
             t.table.inFlight = none
               ∧ (i.phase ≠ .sending → ∀ g, (t.port g).poll = (s.port g).poll ∧ (t.port g).nextPoll = (s.port g).nextPoll)
               ∧ (i.phase = .sending → ∀ g,
                 let copied := match g with
                   | .a => i.onA && !i.undeliveredA
                   | .b => i.onB && !i.undeliveredB
                 let q := s.port g
                 (copied = false → (t.port g).poll = q.poll)
                   ∧ (copied = true → q.nextPoll = none → pollUnderWay q = false → (t.port g).poll = none)
                   ∧ (copied = true → q.nextPoll = none → pollUnderWay q = true →
                     (t.port g).poll = q.poll.map fun x => { x with withdrawn := true })
                   ∧ (copied = true → q.nextPoll ≠ none →
                     (t.port g).poll = q.poll ∧ (t.port g).nextPoll = none))))

/-- POLL_COUNTDOWN_EXPIRY (R36, R37): with no poll in flight, a station that is due is polled: the round starts after
the pointer, the pointer moves to the station, and one POLL frame goes to the poll slot of its recorded segment, or of
both while that is UNKNOWN. With a poll in flight nothing changes. That the frame carries the sequence held before the
counter advances is read from R14 (log entry 19). -/
def Obligations.DueStationIsPolled : Prop :=
  ∀ (s : State) (a : Addr), s.powered = true → a ≠ 0 → (s.station a).countdown = 0 →
    (s.table.inFlight ≠ none → exec (.pollCountdownExpiry a) s = .next s)
      ∧ (s.table.inFlight = none → s.table.forced = none → (s.station a).poll = true →
          s.portA.poll = none → s.portB.poll = none →
        ∃ t b, exec (.pollCountdownExpiry a) s = .next t
          ∧ (pollRound s.table.pointer).find? (pollDue s) = some b
          ∧ t.table.pointer = b ∧ t.ownSeq = s.ownSeq + 1 ∧ t.table.entries = s.table.entries
          ∧ (∃ f : Frame, f.dest = BitVec.ofNat 8 b.val ∧ f.source = 0 ∧ f.kind = 3 ∧ f.seq = s.ownSeq
              ∧ f.payload = [] ∧ frameChecks f = true
              ∧ (let e := s.station b
                let known := e.cls ≠ .empty ∧ e.segment ≠ none
                let onA := ¬ known ∨ e.segment = some .a
                let onB := ¬ known ∨ e.segment = some .b
                (onA → t.portA = { s.portA with poll := some { frame := f } })
                  ∧ (¬ onA → t.portA = s.portA)
                  ∧ (onB → t.portB = { s.portB with poll := some { frame := f } })
                  ∧ (¬ onB → t.portB = s.portB)))
          ∧ (∃ i, t.table.inFlight = some i ∧ i.station = b ∧ i.phase = .sending)
          ∧ t = { s with portA := t.portA, portB := t.portB, ownSeq := t.ownSeq, table := t.table })

/-! ## Zones -/

/-- A zone's current level after re-evaluation is given by the first line of R53's table that fits; level 7 belongs to
frost alone, and the type of a zone changes neither its demand state nor its hold timer. A boost whose last second has
passed runs on until its expiry is taken (R51), so that a boost with 0 s remaining still gives the base level plus 1,
where R53's line says a remaining time above 0: that reading is the model's (log entry 15). Re-evaluation of an
enabled zone (R44, R45, R47, R48, R50 to R52): with a present unit it is CALLING when one of its present units last
called, and IDLE else, and its hold timer stops; the loss of the last present unit starts the hold timer, unless the
hold time is 0, with the call held that the zone had; without one it is HELD or IDLE while the timer runs, by the held
call, and FALLBACK else. A DEMAND with a boost edge loads the boost of a CALLING or IDLE zone that is no OUTBUILDING;
one that loads none ends it where every present unit is satisfied; FALLBACK ends it. The frost flag is set by a fresh
temperature below the frost floor, which raises FROST_CALL when it was clear, and cleared when every one is 10 or more
above it. -/
def Obligations.ReevaluationSetsLevel : Prop :=
  (∀ (cause : ReevalCause) (z : ZoneId) (s : State), (s.zoneCfg z).enable = true →
     let c := s.zoneCfg z
     let r := (reevalZone cause z s).zone z
     let calling := r.demand = .calling ∨ r.demand = .held
     let inDuty := s.time.timeOfDay % 3600 < 60 * c.duty
     (r.frost = true → r.level = 7)
       ∧ (r.frost = false → c.type = .outbuilding → r.level = 0)
       ∧ (r.frost = false → c.type ≠ .outbuilding →
           (calling → r.boost.isSome = true → r.level = min (c.baseLevel + 1) 6)
             ∧ (calling → r.boost = none → r.level = c.baseLevel)
             ∧ (r.demand = .fallback → inDuty → r.level = c.baseLevel)
             ∧ (r.demand = .fallback → ¬ inDuty → r.level = 0) ∧ (r.demand = .idle → r.level = 0))
       ∧ (c.baseLevel ≤ 6 → (r.level = 7 ↔ r.frost = true))
       ∧ ∀ type : ZoneType,
           let u := (reevalZone cause z (s.setZoneCfg z { c with type := type })).zone z
           u.demand = r.demand ∧ u.heldCall = r.heldCall ∧ u.hold = r.hold)
    ∧ (∀ (cause : ReevalCause) (z : ZoneId) (s : State), (s.zoneCfg z).enable = true →
         let c := s.zoneCfg z
         let u := s.zone z
         let t := reevalZone cause z s
         let r := t.zone z
         let unit (a : Addr) : Prop := (s.station a).cls = .roomUnit ∧ (s.station a).presence = .present
         let present := ∃ a ∈ c.binding, unit a
         let calls := ∃ a ∈ c.binding, unit a ∧ (s.unitRecord a).map (·.call) = some true
         let loads := cause = .demandFrame true ∧ c.type ≠ .outbuilding ∧ (r.demand = .calling ∨ r.demand = .idle)
         let fresh := freshTemperatures s z
         let cold := ∃ x ∈ fresh, x < (c.frostFloor : Int)
         let warm := fresh ≠ [] ∧ ∀ x ∈ fresh, (c.frostFloor : Int) + 10 ≤ x
         (calls → r.demand = .calling)
           ∧ (present → ¬ calls → r.demand = .idle)
           ∧ (present → r.hold = none ∧ r.hadPresent = true ∧ r.heldCall = u.heldCall)
           ∧ (¬ present → r.hadPresent = false
               ∧ (u.hadPresent = true → (r.heldCall = true ↔ u.demand = .calling)
                   ∧ r.hold = if c.holdTime = 0 then none else some c.holdTime)
               ∧ (u.hadPresent = false → r.heldCall = u.heldCall ∧ r.hold = u.hold)
               ∧ (r.hold = none → r.demand = .fallback)
               ∧ (r.hold ≠ none → r.demand = if r.heldCall then .held else .idle))
           ∧ (loads → r.boost = some c.boostPeriod)
           ∧ (r.demand = .fallback → r.boost = none)
           ∧ (¬ loads → cause ≠ .other → present → ¬ calls → r.boost = none)
           ∧ (¬ loads → r.demand ≠ .fallback → cause = .other ∨ ¬ present ∨ calls → r.boost = u.boost)
           ∧ (∀ a x, a ∈ c.binding → unit a → (s.unitRecord a).bind (·.temperature) = some x → x ∈ fresh)
           ∧ (∀ x ∈ fresh, ∃ a ∈ c.binding, unit a ∧ (s.unitRecord a).bind (·.temperature) = some x)
           ∧ (r.demand = .fallback → r.frost = false)
           ∧ (r.demand ≠ .fallback →
               (cold → r.frost = true) ∧ (warm → r.frost = false) ∧ (¬ cold → ¬ warm → r.frost = u.frost))
           ∧ t.alarms.waiting =
               (if r.frost = true ∧ u.frost = false then raisedSet s .frostCall (frostDetail s z) else s.alarms.waiting)
           ∧ t = { s with zones := { s.zones with zones := t.zones.zones }, alarms := { s.alarms with waiting := t.alarms.waiting } }
           ∧ ∀ y, y ≠ z → t.zone y = s.zone y)

/-- Deferral (R58): after every step from a settled state, a zone is deferred exactly when some CYLINDER zone has
priority and it is a ROOM zone accepted with a non-frost call; it keeps its accepted flag and its place in the
accepted zone set, the drive of the output it holds is de-energised, and it adds nothing to burner demand. -/
def Obligations.DeferralFollowsPriority : Prop :=
  ∀ s t : State, ZonesSettled s → step s = .next t → ∀ z : ZoneId,
    ((t.zone z).deferred = true ↔
        (∃ y : ZoneId, (t.zoneCfg y).type = .cylinder ∧ (t.zone y).priority.isSome = true)
          ∧ (t.zoneCfg z).type = .room ∧ (t.zone z).accepted = true ∧ 1 ≤ (t.zone z).level ∧ (t.zone z).level ≤ 6)
      ∧ ((t.zone z).deferred = true →
          (t.zone z).accepted = true ∧ (acceptedSet t).getLsbD z.val = true ∧ addsDemand t z = false
            ∧ ∀ o, holderOf t o = some z → (t.valve o).drive = false)

/-- Valve drives (R59): after every step from a settled state in which no two zones hold one output, the drive of an
output is energised exactly while a zone that is enabled, accepted and not deferred holds it and the burner state is
not OUTPUT_FAULT. -/
def Obligations.DriveFollowsHoldingZone : Prop :=
  ∀ s t : State, ZonesSettled s → step s = .next t →
    (∀ y z : ZoneId, (t.zoneCfg y).output.isSome = true → (t.zoneCfg y).output = (t.zoneCfg z).output → y = z) →
    ∀ o : OutputId, (t.valve o).drive = true ↔
      ∃ z : ZoneId, (t.zoneCfg z).output = some o ∧ (t.zoneCfg z).enable = true ∧ (t.zone z).accepted = true
        ∧ (t.zone z).deferred = false ∧ t.burner.state ≠ .outputFault

/-- HOLD_TIMER_EXPIRY, BOOST_EXPIRY and FALLBACK_DUTY_BOUNDARY (R46, R48, R49, R51): a zone with no present unit
passes to FALLBACK, with no boost and no frost flag; a boost that ends leaves a call at its base level; a zone in
FALLBACK calls at its base level inside its duty minutes and is satisfied outside them. The other zones' calls, the
stations and the settings are untouched. That FALLBACK_DUTY_BOUNDARY re-evaluates the zone at whatever time of day it
comes is the model's reading (log entry 25). PRIORITY_TIMER_EXPIRY (R57): from a settled state, the zone ceases to
have priority and its priority-spent flag is set, while its call goes on; once no zone has priority no zone is
deferred. PUMP_OVERRUN_EXPIRY (R65, R66): the overrun ends, and the PUMP relay stays commanded on only for a burner in
STARTING or FIRING or an accepted frost call, and never in OUTPUT_FAULT. -/
def Obligations.ZoneTimersRunOut : Prop :=
  (∀ (s : State) (z : ZoneId), s.powered = true → (s.zoneCfg z).enable = true →
     let c := s.zoneCfg z
     let dutyLevel := if c.type ≠ .outbuilding ∧ s.time.timeOfDay % 3600 < 60 * c.duty then c.baseLevel else 0
     let reevaluates (i : Instr) (P : Zone → Prop) : Prop := ∃ t, exec i s = .next t
       ∧ P (t.zone z)
       ∧ (t.zone z).accepted = decideAccepted s.zones.floor (t.zone z).level
       ∧ (∀ y, y ≠ z → (t.zone y).demand = (s.zone y).demand ∧ (t.zone y).level = (s.zone y).level
           ∧ (t.zone y).accepted = (s.zone y).accepted)
       ∧ t = zonesTouched s t
     ((s.zone z).hold = some 0 → presentUnits s z = [] → (s.zone z).hadPresent = false →
         reevaluates (.holdTimerExpiry z) fun r =>
           r.demand = .fallback ∧ r.hold = none ∧ r.boost = none ∧ r.frost = false ∧ r.level = dutyLevel)
       ∧ ((s.zone z).boost = some 0 →
         reevaluates (.boostExpiry z) fun r =>
           r.boost = none
             ∧ (r.demand = .calling ∨ r.demand = .held → r.frost = false → c.type ≠ .outbuilding →
               r.level = c.baseLevel))
       ∧ ((s.zone z).demand = .fallback → presentUnits s z = [] → (s.zone z).hadPresent = false →
           (s.zone z).hold = none →
         reevaluates (.fallbackDutyBoundary z) fun r =>
           r.demand = .fallback ∧ r.boost = none ∧ r.frost = false ∧ r.level = dutyLevel))
    ∧ (∀ (s : State) (z : ZoneId), s.powered = true → ZonesSettled s → (s.zone z).priority = some 0 →
         ∃ t, exec (.priorityTimerExpiry z) s = .next t
           ∧ (t.zone z).priority = none ∧ (t.zone z).spent = true ∧ (t.zone z).level = (s.zone z).level
           ∧ (t.zone z).accepted = true ∧ (t.zone z).demand = (s.zone z).demand
           ∧ (∀ y, y ≠ z → t.zone y = { s.zone y with deferred := (t.zone y).deferred })
           ∧ ((∀ y, y ≠ z → (s.zone y).priority = none) → ∀ y, (t.zone y).deferred = false)
           ∧ t = zonesTouched s t)
    ∧ (∀ s : State, s.powered = true → s.zones.overrun = some 0 → ∃ t, exec .pumpOverrunExpiry s = .next t
         ∧ t = { s with zones := { s.zones with overrun := none }, monitor := { s.monitor with pump := t.monitor.pump } }
         ∧ (t.monitor.pump.command = true ↔
             s.burner.state ≠ .outputFault
               ∧ (s.burner.state = .starting ∨ s.burner.state = .firing
                 ∨ ∃ z : ZoneId, (s.zone z).accepted = true ∧ (s.zone z).level = 7))
         ∧ t.monitor.pump.drive = t.monitor.pump.command ∧ t.monitor.pump.fault = s.monitor.pump.fault
         ∧ t.monitor.pump.sense = s.monitor.pump.sense)

/-- SWITCH_CLOSE, SWITCH_OPEN and TRAVEL_EXPIRY at a valve record (R60 to R62), from a settled state: the columns of
R61's table, with VALVE_STUCK raised for a valve that becomes stuck. Every other valve and every zone is untouched.
END_SWITCH_FIRST_VALUE (R60), from a settled state: a valve whose end switch has no counted value yet takes its first
one; a closed switch is no event, and an open one is a switch open event, which takes a CLOSING valve to CLOSED. A
valve that has a counted value is untouched. That all twelve first values come at once, and that a closed first value
is no event in any state, is the model's reading (log entry 23). The drive columns of R61, with their entry tests:
each expiry of a zone's timers, and each write of a zone's enable or settings, takes every valve whose drive it
energises or de-energises where R61 says, with the travel timer started for the valve travel time, and leaves every
other valve. -/
def Obligations.ValveFollowsItsTable : Prop :=
  (∀ (s : State) (o : OutputId), s.powered = true → ZonesSettled s →
     let v := s.valve o
     let becomes (i : Instr) (w : Valve) : Prop := ∃ t, exec i s = .next t
       ∧ t.valve o = w ∧ (∀ p, p ≠ o → t.valve p = s.valve p) ∧ t.zones.zones = s.zones.zones
       ∧ t.alarms.waiting = s.alarms.waiting ∧ t = zonesTouched s t
     let sticks (i : Instr) (w : Valve) : Prop := ∃ t, exec i s = .next t
       ∧ t.valve o = w ∧ (∀ p, p ≠ o → t.valve p = s.valve p) ∧ t.zones.zones = s.zones.zones
       ∧ t.alarms.waiting = raisedSet s .valveStuck (stuckDetail s o (w.state == .stuckOpen)) ∧ t = zonesTouched s t
     (v.switch = some false →
         let w := { v with switch := some true }
         (v.state = .closed → sticks (.switchClose o) { w with state := .stuckOpen, travel := none })
           ∧ (v.state = .opening ∨ v.state = .stuckClosed →
             becomes (.switchClose o) { w with state := .open, travel := none })
           ∧ (v.state = .open ∨ v.state = .closing ∨ v.state = .stuckOpen → becomes (.switchClose o) w))
       ∧ (v.switch = some true →
         let w := { v with switch := some false }
         (v.state = .open → sticks (.switchOpen o) { w with state := .stuckClosed, travel := none })
           ∧ (v.state = .closing ∨ v.state = .stuckOpen →
             becomes (.switchOpen o) { w with state := .closed, travel := none })
           ∧ (v.state = .closed ∨ v.state = .opening ∨ v.state = .stuckClosed → becomes (.switchOpen o) w))
       ∧ (v.travel = some 0 →
         (v.state = .opening → sticks (.travelExpiry o) { v with state := .stuckClosed, travel := none })
           ∧ (v.state = .closing → sticks (.travelExpiry o) { v with state := .stuckOpen, travel := none })))
    ∧ (∀ (s : State) (closed : BitVec 12), s.powered = true → ZonesSettled s →
         ∃ t, exec (.endSwitchFirstValue closed) s = .next t
           ∧ (∀ o : OutputId,
               let v := s.valve o
               let w := { v with switch := some (closed.getLsbD o.val) }
               t.valve o =
                 if v.switch.isSome then v
                 else if closed.getLsbD o.val then w
                 else if v.state = .closing ∨ v.state = .stuckOpen then { w with state := .closed, travel := none }
                 else if v.state = .open then { w with state := .stuckClosed, travel := none }
                 else w)
           ∧ t.zones.zones = s.zones.zones ∧ t = zonesTouched s t)
    ∧ (∀ (s : State) (z : ZoneId) (req : Requester) (setting : ZoneSetting) (v : List Byte), s.powered = true →
         ∀ c ∈ [Instr.holdTimerExpiry z, .boostExpiry z, .fallbackDutyBoundary z, .priorityTimerExpiry z,
             .writeZoneEnable req z v, .writeZoneSetting req z setting v],
           ∃ t, exec c s = .next t
             ∧ ∀ o : OutputId, driveColumns s.settings.common.travelTime (s.valve o) (t.valve o))

/-! ## The burner sequencer -/

/-- START_DELAY_EXPIRY and PACING_EXPIRY (R78 to R80, R96): the start delay's end takes DELAYED to STANDBY, and from
there, as at the end of a pacing, a standing demand gives a start decision. PREHEAT_EXPIRY (R79, R81, R82): a
start-time list that has become full sends the burner to PACING with the preheat choice dropped; otherwise the box is
called, the start is counted, and the preheat choice stands. -/
def Obligations.StartTimersEndInDecisionOrCall : Prop :=
  (∀ s : State, s.powered = true →
     let decides (i : Instr) : Prop := ∃ t, exec i s = .next t ∧ t = burnerTouched s t
       ∧ (s.burner.demand = true → startDecided s t) ∧ (s.burner.demand = false → t.burner.state = .standby)
       ∧ t.burner.demand = s.burner.demand ∧ t.burner.run = s.burner.run
     (s.burner.state = .delayed → s.burner.startDelay = some 0 → decides .startDelayExpiry)
       ∧ (s.burner.state = .pacing → s.burner.pacing = some 0 → decides .pacingExpiry))
    ∧ (∀ s : State, s.powered = true → s.burner.state = .preheat → s.burner.preheat = some 0 →
         let live := s.burner.startTimes.filter (· < 3600)
         ∃ t, exec .preheatExpiry s = .next t ∧ t = burnerTouched s t
           ∧ (s.settings.burner.startsPerHour ≤ live.length →
               t.burner.state = .pacing ∧ t.burner.pacing = some (3600 - live.headD 0)
                 ∧ t.burner.preheatChosen = false ∧ t.burner.startTimes = live ∧ t.sampler = s.sampler)
           ∧ (live.length < s.settings.burner.startsPerHour →
               boxCalled s t ∧ t.burner.startTimes = live ++ [0] ∧ t.burner.start = some false
                 ∧ t.burner.preheatChosen = s.burner.preheatChosen
                 ∧ t.sampler.counters = { s.sampler.counters with starts := inc32 s.sampler.counters.starts }))

/-- BOX_NO_RESPONSE (R84): the call ends in STANDBY, the event is counted, BOX_NO_RESPONSE is raised with the response
limit and the starts in the list, and a demand that stands gives a start decision at once. That the limit is the
working setting at the expiry, also when it was written while the timer ran, is the model's choice (log entry 32).
PROVING_EXPIRY (R85, R86, R87, R109): the firing is proven; the call clock becomes the ignition latency, which counts
as a slow start above the slow limit; the minimum run and the firing seconds begin; recovery's proving window starts
when it observes; and the pump overrun stops. -/
def Obligations.CallEndsUnansweredOrInFiring : Prop :=
  (∀ s : State, s.powered = true → s.burner.state = .called → s.burner.response = some 0 →
     ∃ t, exec .boxNoResponse s = .next t ∧ t = burnerAlarmsTouched s t
       ∧ t.sampler.counters.noResponse = inc16 s.sampler.counters.noResponse
       ∧ t.alarms.waiting = raisedSet s .boxNoResponse
           (detailBytes s.settings.burner.responseLimit s.burner.startTimes.length 0)
       ∧ (s.burner.demand = true → startDecided s t)
       ∧ (s.burner.demand = false →
           t.burner.state = .standby ∧ t.burner.start = none ∧ t.burner.response = none
             ∧ t.sampler.counters.starts = s.sampler.counters.starts))
    ∧ (∀ s : State, s.powered = true → s.burner.state = .starting → s.burner.proving = some 0 →
         ∃ t, exec .provingExpiry s = .next t ∧ t = burnerTouched s t
           ∧ t.burner =
               { s.burner with
                 state := .firing, latency := some s.burner.callClock, proving := none
                 minimumRun :=
                   if s.settings.burner.minimumRun = 0 then none else some s.settings.burner.minimumRun
                 firingSecond := some 1, start := s.burner.start.map fun _ => true }
           ∧ (s.settings.burner.slowLimit < s.burner.callClock →
               t.sampler.counters = { s.sampler.counters with slowStarts := inc16 s.sampler.counters.slowStarts })
           ∧ (s.burner.callClock ≤ s.settings.burner.slowLimit → t.sampler.counters = s.sampler.counters)
           ∧ (∀ r, s.sampler.phase = .filling → s.sampler.record = some r → r.latency = none →
               t.sampler.record = some { r with latency := some s.burner.callClock })
           ∧ (s.recovery.state = .observing → t.recovery.window = some 300)
           ∧ (s.recovery.state ≠ .observing → t.recovery.window = s.recovery.window)
           ∧ t.zones.overrun = none ∧ t.monitor.burner.command = true ∧ t.monitor.preheat.command = false)

/-- MINIMUM_RUN_EXPIRY (R87, R88, R95): with demand standing only the timer ends; without, the call is withdrawn, to
RUN_ON while RUN counts as risen and on to STANDBY, where the start ends, when it does not. The pump overrun starts.
FLAME_OUT (R90): a flame-out is counted and the minimum run ends; with demand standing the box is called again in the
same start, whose preheat choice stands, and without it the call is withdrawn. -/
def Obligations.FiringEndsInWithdrawalOrCall : Prop :=
  (∀ s : State, s.powered = true → s.burner.state = .firing → s.burner.minimumRun = some 0 →
     (s.burner.demand = true →
         exec .minimumRunExpiry s = .next { s with burner := { s.burner with minimumRun := none } })
       ∧ (s.burner.demand = false → ∃ t, exec .minimumRunExpiry s = .next t ∧ t = burnerTouched s t
           ∧ t.burner.state = (if s.burner.run then .runOn else .standby)
           ∧ (s.burner.run = false → t.burner.start = none)
           ∧ (s.burner.run = true → t.burner.start = s.burner.start)
           ∧ t.burner.minimumRun = none ∧ t.burner.firingSecond = none ∧ t.burner.flameOut = none
           ∧ t.monitor.burner.command = false
           ∧ t.zones.overrun =
               (if s.settings.common.overrun = 0 then none else some s.settings.common.overrun)
           ∧ (s.recovery.state = .observing → t.recovery.window = none)))
    ∧ (∀ s : State, s.powered = true → s.burner.state = .starting ∨ s.burner.state = .firing →
         s.burner.flameOut = some 0 → s.burner.run = false →
         ∃ t, exec .flameOut s = .next t ∧ t = burnerTouched s t
           ∧ t.sampler.counters = { s.sampler.counters with flameOuts := inc16 s.sampler.counters.flameOuts }
           ∧ t.burner.flameOut = none ∧ t.burner.minimumRun = none ∧ t.burner.startTimes = s.burner.startTimes
           ∧ (s.burner.demand = true →
               t.burner.state = .called ∧ t.burner.callClock = 0
                 ∧ t.burner.response = some s.settings.burner.responseLimit ∧ t.burner.start = s.burner.start
                 ∧ t.burner.preheatChosen = s.burner.preheatChosen)
           ∧ (s.burner.demand = false → t.burner.state = .standby ∧ t.burner.start = none))

/-- FIRING_SECOND (R86, R138, R157, R161): one firing second; the nozzle rate goes into the residue, every whole 3,600
of it counts one millilitre in the burned count and in the day's tally, the firing seconds grow, and the period starts
again. -/
def Obligations.FiringSecondIsIntegrated : Prop :=
  ∀ s : State, s.powered = true → s.burner.state = .firing → s.burner.firingSecond = some 0 →
    let total := s.accounts.residue + s.settings.accounts.nozzleRate
    exec .firingSecond s = .next
      { s with
        burner := { s.burner with firingSecond := some 1 }
        accounts :=
          { s.accounts with
            residue := total % 3600
            burned := min (s.accounts.burned + total / 3600) 4294967295
            tally := min (s.accounts.tally + total / 3600) 4294967295 }
        sampler :=
          { s.sampler with
            counters := { s.sampler.counters with firing := inc32 s.sampler.counters.firing }
            record :=
              if s.sampler.phase = .filling then
                s.sampler.record.map fun r => { r with seconds := inc16 r.seconds }
              else s.sampler.record } }

/-- RUN_RISE (R75, R83, R89): the counted value rises; CALLED goes to STARTING with its proving timer; a flame-out
wait in STARTING gives the proving time again, and one in FIRING ends, with the firing seconds going on and the
proving window starting again; in every other state nothing else changes. RUN_FALL (R75, R88, R89, R95): the counted
value falls; STARTING and FIRING begin a 10 s flame-out wait, in which no firing second is counted and no proving
window runs; RUN_ON goes to STANDBY, where the start ends; in every other state nothing else changes. -/
def Obligations.RunEdgesMoveTheSequencer : Prop :=
  (∀ s : State, s.powered = true → s.burner.run = false →
     let risen := { s.burner with run := true }
     (s.burner.state = .called → ∃ t, exec .runRise s = .next t ∧ t = burnerTouched s t
         ∧ t.burner =
             { risen with state := .starting, response := none, proving := some s.settings.burner.provingTime }
         ∧ t.zones.overrun = none ∧ t.sampler = s.sampler ∧ t.monitor.burner.command = true)
       ∧ (s.burner.state = .starting → s.burner.flameOut.isSome = true →
         exec .runRise s = .next { s with
           burner := { risen with flameOut := none, proving := some s.settings.burner.provingTime } })
       ∧ (s.burner.state = .firing → s.burner.flameOut.isSome = true →
         exec .runRise s = .next { s with
           burner := { risen with flameOut := none, firingSecond := some 1 }
           recovery :=
             { s.recovery with
               window := if s.recovery.state = .observing then some 300 else s.recovery.window } })
       ∧ (s.burner.state ≠ .called →
           (s.burner.state = .starting ∨ s.burner.state = .firing → s.burner.flameOut = none) →
         exec .runRise s = .next { s with burner := risen }))
    ∧ (∀ s : State, s.powered = true → s.burner.run = true →
         let fallen := { s.burner with run := false }
         (s.burner.state = .starting →
             exec .runFall s = .next { s with burner := { fallen with proving := none, flameOut := some 10 } })
           ∧ (s.burner.state = .firing →
             exec .runFall s = .next { s with
               burner := { fallen with firingSecond := none, flameOut := some 10 }
               recovery :=
                 { s.recovery with
                   window := if s.recovery.state = .observing then none else s.recovery.window } })
           ∧ (s.burner.state = .runOn → ∃ t, exec .runFall s = .next t ∧ t = burnerTouched s t
             ∧ (s.burner.demand = false → t.burner.state = .standby ∧ t.burner.start = none)
             ∧ (s.burner.demand = true → startDecided { s with burner := fallen } t)
             ∧ (∀ r, s.burner.start = some true → s.sampler.phase = .filling → s.sampler.record = some r →
                 s.burner.demand = false →
                 t.sampler.record = some { r with endCause := some .normalEnd } ∧ t.sampler.phase = .valid))
           ∧ (s.burner.state ≠ .starting → s.burner.state ≠ .firing → s.burner.state ≠ .runOn →
             exec .runFall s = .next { s with burner := fallen }))

/-! ## Lockout recovery -/

/-- LOCKOUT_RISE (R97, R102 to R106, R110, R113): the counted value rises. In IDLE an episode opens: the burner is
held, a record with the state and the call clock handed back joins the list of the last eight, the lockout is counted,
and LOCKOUT is raised. In OBSERVING the open record goes on. In both, recovery then goes to SUSPENDED while the
suspend condition holds, to HARD when the budget is used up, and else to COOLING. In every other state nothing else
changes. -/
def Obligations.LockoutRiseOpensOrContinuesEpisode : Prop :=
  ∀ s : State, s.powered = true → s.recovery.lockout = false →
    let risen := { s.recovery with lockout := true }
    let goesOn (used : Nat) (t : State) : Prop :=
      let spent := s.settings.recovery.attempts ≤ used
        ∨ s.settings.recovery.windowBudget ≤ s.recovery.resetTimes.length ∨ resetHold s = true
      (s.recovery.suspend = true → t.recovery.state = .suspended)
        ∧ (s.recovery.suspend = false → spent →
            t.recovery.state = .hard ∧ t.recovery.hardLatch = true ∧ t.monitor.reset.command = false)
        ∧ (s.recovery.suspend = false → ¬ spent →
            t.recovery.state = .cooling ∧ t.recovery.coolDown = some s.settings.recovery.coolDown)
        ∧ t.burner.state =
          (if s.burner.state = .outputFault then .outputFault
          else if s.burner.state = .hardLocked ∨ t.recovery.state = .hard then .hardLocked else .lockedOut)
    (s.recovery.state = .idle → ∃ t r, exec .lockoutRise s = .next t
        ∧ t = { recoveryTouched s t with recovery := t.recovery } ∧ t.recovery.lockout = true
        ∧ t.recovery.records = s.recovery.records.drop (s.recovery.records.length - 7) ++ [r]
        ∧ r.number = nextNumber s ∧ r.opened = stampNow s ∧ r.tank = s.tank.state ∧ r.leak = s.accounts.leak
        ∧ r.volume = (if s.tank.state = .unknown then none else s.tank.volume)
        ∧ r.fuelUnknown = (s.tank.state == .unknown)
        ∧ r.phase = (if s.burner.state = .outputFault then .standby else s.burner.state)
        ∧ r.sinceCall =
          (if s.burner.state = .called ∨ s.burner.state = .starting then some s.burner.callClock else none)
        ∧ r.cause =
          (if s.tank.state = .low ∨ s.tank.state = .empty ∨ s.accounts.leak = true then .fuel
          else if s.burner.state = .called ∨ s.burner.state = .starting then .ignition
          else if s.burner.state = .firing then .flameLoss else .idleLockout)
        ∧ r.attempts = 0 ∧ r.failed = 0 ∧ r.hand = false ∧ r.outcome = .open
        ∧ t.sampler.counters.lockouts = inc16 s.sampler.counters.lockouts
        ∧ (s.settings.alarms.lockout = true → isPending t .lockout)
        ∧ t.recovery.service = none ∧ goesOn 0 t)
      ∧ (s.recovery.state = .observing → ∃ t, exec .lockoutRise s = .next t
        ∧ t = { recoveryTouched s t with recovery := t.recovery } ∧ t.recovery.lockout = true
        ∧ t.recovery.records = s.recovery.records ∧ t.sampler.counters = s.sampler.counters
        ∧ (s.settings.alarms.lockout = true → isPending t .lockout)
        ∧ t.recovery.observe = none ∧ t.recovery.window = none ∧ goesOn (attemptsUsed s) t)
      ∧ (s.recovery.state ≠ .idle → s.recovery.state ≠ .observing →
        exec .lockoutRise s = .next { s with recovery := risen })

/-- LOCKOUT_FALL (R97, R108, R111): the counted value falls. A release by the pulse, or by hand in COOLING or
SUSPENDED, which is marked in the record, takes recovery to OBSERVING with its 21,600 s limit and releases the burner;
in HARD only the hand release is marked; in IDLE and OBSERVING nothing else changes. -/
def Obligations.LockoutFallReleasesTheBurner : Prop :=
  ∀ s : State, s.powered = true → s.recovery.lockout = true →
    let fallen := { s.recovery with lockout := false }
    let hand (l : List LockoutRecord) := changeLast (fun r => { r with hand := true }) l
    (holdsBurner s.recovery.state = true → ∃ t, exec .lockoutFall s = .next t
        ∧ t = { burnerTouched s t with recovery := t.recovery }
        ∧ t.recovery =
          { fallen with
            state := .observing, coolDown := none, release := none, observe := some 21600
            records := if s.recovery.state = .resetting then s.recovery.records else hand s.recovery.records }
        ∧ (s.burner.state = .lockedOut → s.burner.demand = true → startDecided s t)
        ∧ (s.burner.state = .lockedOut → s.burner.demand = false → t.burner.state = .standby)
        ∧ (s.burner.state ≠ .lockedOut → t.burner = s.burner))
      ∧ (s.recovery.state = .hard →
        exec .lockoutFall s = .next { s with recovery := { fallen with records := hand s.recovery.records } })
      ∧ (s.recovery.state = .idle ∨ s.recovery.state = .observing →
        exec .lockoutFall s = .next { s with recovery := fallen })

/-- COOL_DOWN_EXPIRY (R102, R106, R107, R113): while the suspend condition holds recovery goes to SUSPENDED; with the
budget used up it goes to HARD; and otherwise it gives an automatic reset pulse: the RESET relay is commanded closed
for 1 s, the pulse is counted in the record, in the reset-time list and in the run counters, and recovery is RESETTING
with its 10 s release wait. RESET_PULSE_END and RELEASE_WAIT_EXPIRY (R102, R107, R108): the pulse's end opens the
RESET relay; a box that did not release within the wait counts a failed attempt in the record, and recovery goes to
SUSPENDED, HARD or COOLING. -/
def Obligations.ResetPulseRunsItsCourse : Prop :=
  (∀ s : State, s.powered = true → s.recovery.state = .cooling → s.recovery.coolDown = some 0 →
     let spent := s.settings.recovery.attempts ≤ attemptsUsed s
       ∨ s.settings.recovery.windowBudget ≤ s.recovery.resetTimes.length ∨ resetHold s = true
     ∃ t, exec .coolDownExpiry s = .next t ∧ t = recoveryTouched s t ∧ t.recovery.coolDown = none
       ∧ (s.recovery.suspend = true →
           t.recovery = { s.recovery with state := .suspended, coolDown := none } ∧ t.monitor = s.monitor
             ∧ t.sampler = s.sampler)
       ∧ (s.recovery.suspend = false → spent →
           t.recovery.state = .hard ∧ t.recovery.hardLatch = true ∧ t.recovery.records = s.recovery.records
             ∧ isPending t .hardLockout)
       ∧ (s.recovery.suspend = false → ¬ spent →
           t.recovery =
               { s.recovery with
                 state := .resetting, coolDown := none, release := some 10, pulse := some 1
                 resetTimes := s.recovery.resetTimes ++ [0]
                 records := changeLast (fun r => { r with attempts := r.attempts + 1 }) s.recovery.records }
             ∧ t.monitor.reset.command = true ∧ t.monitor.reset.drive = true
             ∧ t.sampler.counters = { s.sampler.counters with autoResets := inc16 s.sampler.counters.autoResets }
             ∧ t.burner = s.burner))
    ∧ (∀ s : State, s.powered = true →
         (s.recovery.pulse = some 0 → ∃ t, exec .resetPulseEnd s = .next t
             ∧ t = { s with
                     recovery := { s.recovery with pulse := none }
                     monitor := { s.monitor with reset := t.monitor.reset } }
             ∧ t.monitor.reset.command = false ∧ t.monitor.reset.drive = false
             ∧ t.monitor.reset.fault = s.monitor.reset.fault)
           ∧ (s.recovery.state = .resetting → s.recovery.release = some 0 →
             let spent := s.settings.recovery.attempts ≤ attemptsUsed s
               ∨ s.settings.recovery.windowBudget ≤ s.recovery.resetTimes.length ∨ resetHold s = true
             ∃ t, exec .releaseWaitExpiry s = .next t ∧ t = recoveryTouched s t
               ∧ t.recovery.records = changeLast (fun r => { r with failed := r.failed + 1 }) s.recovery.records
               ∧ t.recovery.release = none
               ∧ (s.recovery.suspend = true → t.recovery.state = .suspended)
               ∧ (s.recovery.suspend = false → spent → t.recovery.state = .hard)
               ∧ (s.recovery.suspend = false → ¬ spent →
                 t.recovery.state = .cooling ∧ t.recovery.coolDown = some s.settings.recovery.coolDown)))

/-- PROVING_WINDOW_EXPIRY and OBSERVE_LIMIT_EXPIRY (R98, R105, R109): the open record closes RECOVERED, which raises
RECOVERED with the record's number and attempts, or UNTESTED, and recovery is IDLE with neither timer running.
SERVICE_WAIT_EXPIRY and RESET_TIME_ENTRY_EXPIRY (R101, R103, R115): a LOCKOUT sense still risen after the service wait
opens an episode as a rise in IDLE would, and a fallen one ends the wait alone; a pulse leaves the reset-time list at
an age of 86,400 s. -/
def Obligations.ObservingAndServiceWaitEnd : Prop :=
  (∀ s : State, s.powered = true → s.recovery.state = .observing →
     let closed (o : RecordOutcome) : Recovery :=
       { s.recovery with
         state := .idle, observe := none, window := none
         records := changeLast (fun r => { r with outcome := o }) s.recovery.records }
     (s.recovery.window = some 0 → ∃ t, exec .provingWindowExpiry s = .next t
         ∧ t = { alarmsTouched s t with recovery := closed .recovered }
         ∧ t.alarms.waiting = raisedSet s .recovered (detailHalfByte (recordNumber s) (attemptsUsed s)))
       ∧ (s.recovery.observe = some 0 → ∃ t, exec .observeLimitExpiry s = .next t
         ∧ t = { statusTouched s t with recovery := closed .untested }))
    ∧ (∀ s : State, s.powered = true →
         (s.recovery.state = .idle → s.recovery.service = some 0 → s.recovery.lockout = false →
             exec .serviceWaitExpiry s = .next { s with recovery := { s.recovery with service := none } })
           ∧ (s.recovery.state = .idle → s.recovery.service = some 0 → s.recovery.lockout = true →
             exec .serviceWaitExpiry s
               = exec .lockoutRise { s with recovery := { s.recovery with service := none, lockout := false } })
           ∧ exec .resetTimeEntryExpiry s = .next { s with
               recovery := { s.recovery with resetTimes := s.recovery.resetTimes.filter (· < 86400) } })

/-! ## The tank gauge and the fuel accounts -/

/-- The measured volume (R126, R128): the median is the lower of the middle levels of the window, and a level's volume
is read off the points in force, which rise in height and do not fall in volume: linearly and truncated between two
points, the last point's volume at or above it, and never falling as the level rises. -/
def Obligations.MedianIsInterpolated : Prop :=
  (∀ (w : List Nat) (m : Nat), medianOf w = some m ↔
      m ∈ w ∧ (w.filter (· < m)).length ≤ (w.length - 1) / 2 ∧ (w.length - 1) / 2 < (w.filter (· ≤ m)).length)
    ∧ ∀ l : List StrapPoint, risingPoints l = true →
      (∀ (pre post : List StrapPoint) (p q : StrapPoint) (h : Nat), l = pre ++ p :: q :: post → p.height ≤ h →
          h < q.height →
          volumeAt l h = p.volume + (q.volume - p.volume) * (h - p.height) / (q.height - p.height)
            ∧ p.volume ≤ volumeAt l h ∧ volumeAt l h ≤ q.volume)
        ∧ (∀ (pre : List StrapPoint) (p : StrapPoint) (h : Nat), l = pre ++ [p] → p.height ≤ h →
          volumeAt l h = p.volume)
        ∧ ∀ h k : Nat, (∀ p, l.head? = some p → p.height = 0) → h ≤ k → volumeAt l h ≤ volumeAt l k

/-- A LEVEL reading (R122 to R126), in the order of its tests: no echo is counted alone; an echo gives the sender
temperature, its age set to 0, when that lies from −400 to +850 tenths of °C, and makes it unknown otherwise; an
ullage above the tank height by more than 100 mm is counted and raised as implausible; any other ullage gives the
level, 0 where it exceeds the height, a weak echo being counted. A plausible level above the jump limit from the
median is held pending, and changes no window, volume or timer; one within it enters the window; one that agrees with
the pending level within 30 mm enters with it; one that does not is judged afresh, the pending level counted as
discarded; and a level that enters restarts the stale timer and gives the measured volume. A volume change goes to the
fuel accounts (R142) and then reclassifies the tank (R129 to R131): an entry into LOW, EMPTY or UNKNOWN is counted and
raised, and the effective floor and the suspend condition follow. A LEVEL frame that is accepted from a TANK_SENDER
(R30) is such a reading. That the age goes on where the temperature becomes unknown is the model's choice (log entry
18). With the reserve below the cutout the order of the rows of R130 is the model's choice too (log entry 29).
STALE_TIMER_EXPIRY (R127, R129 to R131): the window and the pending slot empty and the measured volume becomes
UNKNOWN. A tank state that was known becomes UNKNOWN: the entry is counted and TANK_UNKNOWN is raised with the cause
STALE and the last known volume (R172), and the effective floor and the suspend condition follow. The fuel accounts
and the sender temperature are untouched. -/
def Obligations.LevelReadingsComeAndGoStale : Prop :=
  (∀ (s : State) (source : Nat) (f : Frame),
     let window (l : List Nat) : List Nat := (s.tank.window ++ l).drop ((s.tank.window ++ l).length - 5)
     (levelUllage f = none →
         takeLevel source f s
           = { s with tank := { s.tank with counts := { s.tank.counts with noEcho := inc16 s.tank.counts.noEcho } } })
       ∧ (∀ u, levelUllage f = some u →
         let d := levelTemperature f
         let known := -400 ≤ d ∧ d ≤ 850
         let k : Tank :=
           { s.tank with
             temperature := if known then some d else none, tempAge := if known then 0 else s.tank.tempAge }
         (s.settings.tank.height + 100 < u →
             takeLevel source f s
               = { s with
                   tank := { k with counts := { k.counts with implausible := inc16 k.counts.implausible } }
                   alarms :=
                     { s.alarms with
                       waiting := raisedSet s .senderImplausible (detailHalfByte u source) } })
           ∧ (u ≤ s.settings.tank.height + 100 → levelWeakEcho f = false →
             takeLevel source f s = plausibleLevel (s.settings.tank.height - u) { s with tank := k })
           ∧ (u ≤ s.settings.tank.height + 100 → levelWeakEcho f = true →
             takeLevel source f s
               = plausibleLevel (s.settings.tank.height - u)
                   { s with tank := { k with counts := { k.counts with weakEcho := inc16 k.counts.weakEcho } } }))
       ∧ (∀ h m, s.tank.pendingSlot = none → medianOf s.tank.window = some m →
           s.settings.tank.jumpLimit < apart h m →
         plausibleLevel h s = { s with tank := { s.tank with pendingSlot := some h } })
       ∧ (∀ h, s.tank.pendingSlot = none →
           (∀ m, medianOf s.tank.window = some m → apart h m ≤ s.settings.tank.jumpLimit) →
         (plausibleLevel h s).tank.window = window [h]
           ∧ (plausibleLevel h s).tank.stale = some s.settings.tank.staleLimit)
       ∧ (∀ h p, s.tank.pendingSlot = some p → apart h p ≤ 30 →
         (plausibleLevel h s).tank.window = window [p, h] ∧ (plausibleLevel h s).tank.pendingSlot = none
           ∧ (plausibleLevel h s).tank.stale = some s.settings.tank.staleLimit)
       ∧ (∀ h p, s.tank.pendingSlot = some p → 30 < apart h p →
           (∀ m, medianOf s.tank.window = some m → apart h m ≤ s.settings.tank.jumpLimit) →
         (plausibleLevel h s).tank.window = window [h] ∧ (plausibleLevel h s).tank.pendingSlot = none
           ∧ (plausibleLevel h s).tank.stale = some s.settings.tank.staleLimit
           ∧ (plausibleLevel h s).tank.counts.discarded = inc16 s.tank.counts.discarded)
       ∧ (∀ h p m, s.tank.pendingSlot = some p → 30 < apart h p → medianOf s.tank.window = some m →
           s.settings.tank.jumpLimit < apart h m →
         plausibleLevel h s
           = { s with tank :=
               { s.tank with
                 pendingSlot := some h
                 counts := { s.tank.counts with discarded := inc16 s.tank.counts.discarded } } })
       ∧ (∀ h, let t := plausibleLevel h s
           volumeFollows .tableInvalid s t
             ∧ (t.tank.window ≠ s.tank.window ∨ t.tank.stale ≠ s.tank.stale → t.tank.volume =
               if s.tank.valid then (medianOf t.tank.window).map (volumeAt (pointsInForce s.settings.tank)) else none))
       ∧ ∀ (seg : Segment) (a : Addr), s.powered = true → lineOpen s seg = true → wellFormedFrom a f →
           conflicts seg (s.station a) = false → isDuplicate f (s.station a) = false → f.kind = 2 →
           ¬ (f.dest ≠ 0 ∧ partAnswers s seg f = true ∧ crosses s seg f = true
             ∧ 8 ≤ (s.port (otherSegment seg)).queue.length) →
           (s.station a).cls = .tankSender ∨ (s.station a).cls = .empty →
         let u := takeLevel a.val f s
         ∃ t, exec (.frameArrival seg f) s = .next t ∧ t.tank = u.tank ∧ t.accounts = u.accounts
           ∧ t.zones.floor = u.zones.floor ∧ t.recovery.suspend = u.recovery.suspend ∧ t.settings = s.settings
           ∧ ∀ k ∈ [AlarmKind.tankLow, .tankEmpty, .tankUnknown, .senderImplausible, .delivery, .leakSuspect],
               pendingOf t k = pendingOf u k)
    ∧ (∀ s : State, s.powered = true → s.tank.stale = some 0 → ∃ t, exec .staleTimerExpiry s = .next t
         ∧ t.tank = { s.tank with
                       window := [], pendingSlot := none, stale := none, volume := none
                       state := t.tank.state, counts := t.tank.counts }
         ∧ t.accounts = s.accounts ∧ t.settings = s.settings ∧ t.mgmt = s.mgmt ∧ t.time = s.time
         ∧ (s.tank.volume = none → t = { s with tank := t.tank } ∧ t.tank.state = s.tank.state)
         ∧ (s.tank.volume ≠ none →
             t.tank.state = .unknown
               ∧ (s.tank.state ≠ .unknown →
                 t.tank.counts = { s.tank.counts with unknownEntries := inc16 s.tank.counts.unknownEntries }
                   ∧ (t.alarms.waiting.filter fun e => e.kind == .tankUnknown)
                     = ((raisedSet s .tankUnknown
                         (detailByteHalf 0 (BitVec.ofNat 16 (s.tank.volume.getD 65535)))).filter
                           fun e => e.kind == .tankUnknown)
                   ∧ t.zones.floor = max s.settings.common.mgmtFloor s.settings.common.unknownFloor
                   ∧ t.recovery.suspend = s.accounts.leak)
               ∧ (s.tank.state = .unknown → t.tank.counts = s.tank.counts)))

/-- A reconciliation (R140 to R145) restarts the spacing timer and judges the measured volume against the book: an
UNSET book is rebased; an excess of the delivery threshold or more is a delivery, recorded, raised and rebased; a lack
of the leak threshold or more is a strike, whose second one sets the leak latch and raises LEAK_SUSPECT; any other
difference clears the strikes. A known volume change is reconciled exactly while the book is UNSET or the spacing
timer does not run, and passed over else, whether an accepted LEVEL brings it or a write of the strapping table;
UNKNOWN never is (R142). SPACING_TIMER_EXPIRY (R142) ends the timer and makes no reconciliation. -/
def Obligations.ReconciliationJudgesVolume : Prop :=
  (∀ (s : State) (m : Nat),
    let a := { s.accounts with spacing := some 3600 }
    let t := reconcile m s
    let rebased : Accounts := { a with reference := some m, burned := 0, residue := 0, strikes := 0 }
    (a.reference = none → t = { s with accounts := rebased })
      ∧ ∀ r, a.reference = some r →
        let book := r - a.burned / 1000
        let excess := book + s.settings.accounts.deliveryThreshold ≤ m
        let lack := m + s.settings.accounts.leakThreshold ≤ book
        (excess →
            t.accounts =
                { rebased with lastDelivery := some { stamp := stampNow s, added := m - book, volume := m } }
              ∧ t.alarms.waiting = raisedSet s .delivery (detailHalfByte m (min 255 ((m - book) / 10)))
              ∧ t = { s with accounts := t.accounts, alarms := { s.alarms with waiting := t.alarms.waiting } })
          ∧ (¬ excess → ¬ lack → t = { s with accounts := { a with strikes := 0 } })
          ∧ (¬ excess → lack → a.strikes = 0 → t = { s with accounts := { a with strikes := 1 } })
          ∧ (¬ excess → lack → a.strikes = 1 → a.leak = true → t = { s with accounts := { a with strikes := 2 } })
          ∧ (¬ excess → lack → a.strikes = 1 → a.leak = false →
              t.accounts = { a with strikes := 2, leak := true } ∧ t.recovery.suspend = true
                ∧ isPending t .leakSuspect
                ∧ (s.recovery.state = .cooling → s.recovery.suspend = false → t.recovery.state = .suspended))
          ∧ (¬ excess → lack → 2 ≤ a.strikes → t = { s with accounts := a }))
    ∧ (∀ s : State, s.powered = true → s.accounts.spacing = some 0 →
      exec .spacingTimerExpiry s = .next { s with accounts := { s.accounts with spacing := none } })
    ∧ (∀ (s : State) (seg : Segment) (a : Addr) (f : Frame), s.powered = true → lineOpen s seg = true →
        wellFormedFrom a f → conflicts seg (s.station a) = false → isDuplicate f (s.station a) = false → f.kind = 2 →
        ¬ (f.dest ≠ 0 ∧ partAnswers s seg f = true ∧ crosses s seg f = true
          ∧ 8 ≤ (s.port (otherSegment seg)).queue.length) →
        ∃ t, exec (.frameArrival seg f) s = .next t ∧ accountsFollow s t)
    ∧ ∀ (s : State) (req : Requester) (field : StrapTarget) (v : List Byte), acceptsWrite s req →
        ∃ t, exec (.writeStrapping req field v) s = .next t ∧ accountsFollow s t

/-! ## The output monitor and the alarm unit -/

/-- CONTACT_SENSE_CHANGE and READBACK_EXPIRY (R164 to R167, R93, R116): in CHECKING or with the fault latched a sense
change is not judged; a readback that agrees with the drive settles the relay; a change in SETTLED, or a readback that
disagrees, latches the fault and raises RELAY_FAULT. A BURNER or RESET fault takes the burner to OUTPUT_FAULT and
holds the RESET drive open, and a RESET fault with an episode open takes recovery to HARD; a PUMP or PREHEAT fault
does nothing else. That a change to the value already counted changes nothing is the model's reading (log entry 26),
and so is the phase left by a latched fault (log entry 33). -/
def Obligations.MismatchLatchesFault : Prop :=
  ∀ (s : State) (r : Relay), s.powered = true →
    let x := s.relay r
    let latches (i : Instr) (sense : Bool) : Prop := ∃ t, exec i s = .next t
      ∧ (t.relay r).fault = true ∧ (t.relay r).sense = sense ∧ isPending t .relayFault
      ∧ (∀ q, q ≠ r → (t.relay q).fault = (s.relay q).fault ∧ (t.relay q).sense = (s.relay q).sense)
      ∧ (r = .pump ∨ r = .preheat →
          t = { s.setRelay r { x with sense := sense, fault := true, timer := none } with
                alarms :=
                  { s.alarms with
                    waiting := raiseInto .relayFault
                      (detailBytes (relayCode r) (flagCode x.drive) (flagCode sense)) s.alarms.waiting } })
      ∧ (r = .burner ∨ r = .reset →
          t.burner.state = .outputFault ∧ t.burner.start = none ∧ t.monitor.reset.drive = false
            ∧ (s.burner.state ≠ .outputFault → t.monitor.burner.command = false ∧ t.monitor.burner.drive = false)
            ∧ t.settings = s.settings ∧ t.tank = s.tank ∧ t.accounts = s.accounts ∧ t.time = s.time)
      ∧ (r = .reset → s.recovery.state ≠ .idle → t.recovery.state = .hard)
      ∧ (r = .burner ∨ s.recovery.state = .idle → t.recovery.state = s.recovery.state)
    (exec (.contactSenseChange r x.sense) s = .next s)
      ∧ (∀ closed, closed ≠ x.sense → x.phase = .checking ∨ x.fault = true →
          exec (.contactSenseChange r closed) s = .next (s.setRelay r { x with sense := closed }))
      ∧ (∀ closed, closed ≠ x.sense → x.phase = .settled → x.fault = false →
          latches (.contactSenseChange r closed) closed)
      ∧ (x.phase = .checking → x.timer.isSome = true → x.fault = false → x.sense = x.drive →
          exec (.readbackExpiry r) s = .next (s.setRelay r { x with phase := .settled, timer := none }))
      ∧ (x.phase = .checking → x.timer.isSome = true → x.fault = false → x.sense ≠ x.drive →
          latches (.readbackExpiry r) x.sense)

/-- ALARM_SEND and SEND_TIME_ENTRY_EXPIRY (R14, R170, R173, R174): with both alarm slots empty and fewer than four
sends in the last 60 s, the head of the pending set leaves it as one ALARM frame, with the kind, the detail, the count
and the next own-frame sequence, to both ports; otherwise nothing happens. A send leaves the send-time list at an age
of 60 s. That a frame carries the sequence held before the counter advances is read from R14 (log entry 19), and that
ALARM_SEND may come at any time after its conditions came to hold is the model's choice (log entry 31).
STATUS_SPACING_EXPIRY and STATUS_PERIODIC_EXPIRY (R14, R175, R176): the periodic expiry, and the spacing expiry while
a STATUS is due, build one STATUS frame from the values as they stand, hand it to both ports and restart both timers;
the spacing expiry with none due only stops the timer. -/
def Obligations.AlarmAndStatusFramesAreSent : Prop :=
  (∀ s : State, s.powered = true →
     (∀ e rest, s.alarms.waiting = e :: rest → s.portA.alarm = none → s.portB.alarm = none →
         s.alarms.sendTimes.length < 4 →
         ∃ f : Frame, f.dest = 31 ∧ f.source = 0 ∧ f.kind = 5 ∧ f.seq = s.ownSeq ∧ frameChecks f = true
           ∧ f.payload = [BitVec.ofNat 8 (alarmCode e.kind), e.detail.extractLsb' 16 8, e.detail.extractLsb' 8 8,
               e.detail.extractLsb' 0 8, BitVec.ofNat 8 e.count]
           ∧ exec .alarmSend s = .next { s with
               portA := { s.portA with alarm := some f }
               portB := { s.portB with alarm := some f }
               ownSeq := s.ownSeq + 1
               table := { s.table with ownLast := some (5, s.ownSeq) }
               alarms := { s.alarms with waiting := rest, sendTimes := s.alarms.sendTimes ++ [0] } })
       ∧ (s.alarms.waiting = [] ∨ s.portA.alarm ≠ none ∨ s.portB.alarm ≠ none ∨ 4 ≤ s.alarms.sendTimes.length →
         exec .alarmSend s = .next s)
       ∧ exec .sendTimeEntryExpiry s = .next { s with
           alarms := { s.alarms with sendTimes := s.alarms.sendTimes.filter (· < 60) } })
    ∧ (∀ s : State, s.powered = true →
         let builds (i : Instr) : Prop := ∃ f : Frame, f.dest = 31 ∧ f.source = 0 ∧ f.kind = 4 ∧ f.seq = s.ownSeq
           ∧ f.payload = statusPayload s ∧ frameChecks f = true
           ∧ exec i s = .next { s with
               portA := { s.portA with status := some f }
               portB := { s.portB with status := some f }
               ownSeq := s.ownSeq + 1
               table := { s.table with ownLast := some (4, s.ownSeq) }
               alarms := { s.alarms with due := false, spacing := some 5, periodic := some 60 } }
         (s.alarms.periodic = some 0 → builds .statusPeriodicExpiry)
           ∧ (s.alarms.spacing = some 0 → s.alarms.due = true → builds .statusSpacingExpiry)
           ∧ (s.alarms.spacing = some 0 → s.alarms.due = false →
             exec .statusSpacingExpiry s = .next { s with alarms := { s.alarms with spacing := none } }))

/-! ## Management -/

/-- Every request of the table (R178, R179): a free unit that gives the sender rights takes it, counts it, and holds
it with an MGMT_REPLY to the requester with its sequence, the command code, a result and at most six data bytes. A
request that comes while the unit handles another, or from a sender that passes no access test, changes nothing at the
unit; what the port answers it is part of FRAME_ARRIVAL (log entry 1). What decoding refuses (R180), in the order of
its tests: a code outside the command table, which UNKNOWN_COMMAND carries, is BAD_VALUE; more argument bytes than the
command uses are BAD_VALUE and fewer BAD_FIELD, whatever the rights, where READ_FIELD uses three, WRITE_FIELD four to
seven, SET_TIME five, SET_FLOOR and FORCE_POLL one and the others none; a command outside PANEL rights is NOT_ALLOWED;
CLEAR_HARD and CLEAR_FAULT with the SERVICE input open are SERVICE_OPEN; and they and RELOAD are BUSY while the store
saves. The refusal changes nothing but the management unit. -/
def Obligations.RequestIsAnsweredOrRefused : Prop :=
  (∀ (c : Instr) (s : State) (req : Requester) (code : Byte) (args : List Byte),
     requestOf c = some (req, code, args) →
     (∀ rights, acceptsRequest s req rights → ∃ t result data, exec c s = .next t
         ∧ t.mgmt = answered s req rights code args result data ∧ data.length ≤ 6)
       ∧ (req.station = 0 ∨ s.mgmt.hand ≠ none ∨ rightsOf s req.station = none → exec c s = .next s))
    ∧ (∀ (s : State) (req : Requester) (rights : Rights), acceptsRequest s req rights →
         let refused (c : Instr) (code : Byte) (args : List Byte) (r : Result) : Prop :=
           exec c s = .next (withMgmt s (answered s req rights code args r []))
         (∀ code args, code = 0 ∨ 13 < code.toNat → refused (.unknownCommand req code args) code args .badValue)
           ∧ (∀ n ∈ [((1 : Byte), 3, 3), (2, 4, 7), (3, 0, 0), (4, 0, 0), (5, 1, 1), (6, 5, 5), (7, 0, 0), (8, 0, 0), (9, 0, 0),
                 (10, 0, 0), (11, 0, 0), (12, 1, 1), (13, 0, 0)],
               ∀ (c : Instr) (args : List Byte), requestOf c = some (req, n.1, args) →
                 (n.2.2 < args.length → refused c n.1 args .badValue)
                   ∧ (args.length < n.2.1 → refused c n.1 args .badField))
           ∧ (rights = .panel →
               (∀ t i n b v, v.length ≤ 3 → refused (.writeField req t i n (b :: v)) 2 (t :: i :: n :: b :: v) .notAllowed)
                 ∧ refused (.commit req) 3 [] .notAllowed ∧ refused (.reload req) 4 [] .notAllowed
                 ∧ refused (.clearHard req) 9 [] .notAllowed ∧ refused (.clearFault req) 10 [] .notAllowed
                 ∧ refused (.clearCounters req) 11 [] .notAllowed)
           ∧ (rights = .serviceTool → s.mgmt.service = false →
               refused (.clearHard req) 9 [] .serviceOpen ∧ refused (.clearFault req) 10 [] .serviceOpen)
           ∧ (rights = .serviceTool → s.store.activity ≠ .idle →
               refused (.reload req) 4 [] .busy
                 ∧ (s.mgmt.service = true → refused (.clearHard req) 9 [] .busy ∧ refused (.clearFault req) 10 [] .busy)))

/-- READ_FIELD (R181): the reply carries the field's value in the field's size as it stands at the acceptance, or
BAD_TABLE, BAD_INDEX or BAD_FIELD; a read changes nothing but the management unit. The counter of the model's free
values advances (log entry 6). -/
def Obligations.ReadFieldAnswersTheValue : Prop :=
  ∀ (s : State) (req : Requester) (rights : Rights) (table index field : Byte), acceptsRequest s req rights →
    let args := [table, index, field]
    let h := holding s req rights 1 args
    ∃ t, exec (.readField req table index field) s = .next t ∧ t = { s with mgmt := t.mgmt, free := t.free }
      ∧ (∀ f, fieldOf h table.toNat index.toNat field.toNat = .ok f →
          t.mgmt = answered s req rights 1 args .done (bytesOf f.size f.value))
      ∧ (∀ r, fieldOf h table.toNat index.toNat field.toNat = .error r →
          t.mgmt = answered s req rights 1 args r [] ∧ (r = .badTable ∨ r = .badIndex ∨ r = .badField))
      ∧ (args = [6, 0, 16] →
          t.mgmt = answered s req rights 1 args .done [BitVec.ofNat 8 (burnerCode s.burner.state)])
      ∧ (args = [11, 4, 2] → t.mgmt = answered s req rights 1 args .done (bytes2 s.time.day))
      ∧ (table = 0 ∨ 12 < table.toNat → t.mgmt = answered s req rights 1 args .badTable [])

/-- WRITE_FIELD (R182, R183), in the order of its tests: a field that a read refuses, a read-only field, a guarded
field while the SERVICE input is open, and a value of the wrong size change nothing; then the owning block takes the
value, refuses it with BAD_VALUE, or takes it clamped. A field that took a value unclamped reads as that value
afterwards. The fields that only WRITE_FIELD writes, each with the value it takes (R34, R40, R42, R43, R62, R66, R76,
R99, R119, R137, R169, R182, R183, R189): the fields of a forwarding rule, an address value or mask above 31 being
refused; the guarded recovery settings, with the SERVICE input closed; the enable of an alarm kind, the forced kinds
being read-only; a station's silence limit and watched flag; and the plain quantities of the common, tank, account and
burner settings, each clamped to its range. A zone's hold time and boost period act at the next start of their timers,
and the model re-evaluates the zone at their write as at any other (log entry 22). -/
def Obligations.WriteFieldChangesTheField : Prop :=
  (∀ (s : State) (req : Requester) (table index field b : Byte) (v : List Byte), acceptsWrite s req →
     v.length ≤ 3 →
     let value := b :: v
     let h := holding s req .serviceTool 2 (table :: index :: field :: value)
     let c := Instr.writeField req table index field value
     let after (r : Result) (u : State) : Prop :=
       exec c s = .next (withMgmt u (wrote s req table index field value r))
     (∀ r, fieldOf h table.toNat index.toNat field.toNat = .error r → after r s)
       ∧ ∀ f, fieldOf h table.toNat index.toNat field.toNat = .ok f →
         (f.access = .r → after .readOnly s)
           ∧ (f.access = .g → s.mgmt.service = false → after .serviceOpen s)
           ∧ (f.access = .w ∨ f.access = .g ∧ s.mgmt.service = true →
               (value.length ≠ f.size → after .badValue s)
                 ∧ (value.length = f.size →
                     (putField table.toNat index.toNat field.toNat (numberOf value) h = .refused → after .badValue s)
                       ∧ ∀ clamped u,
                         putField table.toNat index.toNat field.toNat (numberOf value) h = .written clamped u →
                         after (if clamped then .doneClamped else .done) u
                           ∧ ∃ g, fieldOf u table.toNat index.toNat field.toNat = .ok g ∧ g.size = f.size
                             ∧ (clamped = false → g.value = numberOf value)))
           ∧ (∀ d, table = 6 → index = 0 → field = 3 → v = [d] →
               after (rangeResult 0 600 (halfOf b d))
                 { s with settings :=
                   { s.settings with burner := { s.settings.burner with preheatTime := min (halfOf b d) 600 } } }))
    ∧ (∀ (s : State) (req : Requester), acceptsWrite s req →
         let takes (t i n : Byte) (v : List Byte) (r : Result) (u : State) : Prop :=
           exec (.writeField req t i n v) s = .next (withMgmt u (wrote s req t i n v r))
         let quantity (t i n : Byte) (v : List Byte) (lo hi : Nat) (u : Nat → State) : Prop :=
           takes t i n v (rangeResult lo hi (numberOf v)) (u (max lo (min (numberOf v) hi)))
         let with' (c : Settings) : State := { s with settings := c }
         let c := s.settings
         (∀ i : Fin 16,
             let r := c.rules[i]
             let n := BitVec.ofNat 8 i.val
             let rule (x : ForwardRule) : State := with' { c with rules := upd c.rules i x }
             (∀ x, takes 2 n 1 [BitVec.ofNat 8 (flagCode x)] .done (rule { r with enable := x }))
               ∧ (∀ b : Byte, b.toNat ≤ 31 →
                 takes 2 n 2 [b] .done (rule { r with sourceValue := b.setWidth 5 })
                   ∧ takes 2 n 3 [b] .done (rule { r with sourceMask := b.setWidth 5 })
                   ∧ takes 2 n 4 [b] .done (rule { r with destValue := b.setWidth 5 })
                   ∧ takes 2 n 5 [b] .done (rule { r with destMask := b.setWidth 5 }))
               ∧ (∀ b m : Byte, 31 < b.toNat → 2 ≤ m.toNat → m.toNat ≤ 5 → takes 2 n m [b] .badValue s)
               ∧ (∀ b d : Byte, takes 2 n 6 [b, d] .done (rule { r with kinds := b ++ d }))
               ∧ (∀ x, takes 2 n 7 [BitVec.ofNat 8 (ingressCode x)] .done (rule { r with ingress := x }))
               ∧ (∀ x, takes 2 n 8 [BitVec.ofNat 8 (actionCode x)] .done (rule { r with action := x })))
           ∧ (∀ b d : Byte,
             let set (x : RecoverySettings) : State := with' { c with recovery := x }
             (s.mgmt.service = true →
                 quantity 7 0 1 [b] 0 3 (fun x => set { c.recovery with attempts := x })
                   ∧ quantity 7 0 2 [b] 0 6 (fun x => set { c.recovery with windowBudget := x })
                   ∧ quantity 7 0 3 [b, d] 30 900 (fun x => set { c.recovery with coolDown := x }))
               ∧ (s.mgmt.service = false →
                 takes 7 0 1 [b] .serviceOpen s ∧ takes 7 0 2 [b] .serviceOpen s ∧ takes 7 0 3 [b, d] .serviceOpen s))
           ∧ (∀ (k : AlarmKind) (x : Bool),
             let n := BitVec.ofNat 8 (alarmCode k)
             let v := [BitVec.ofNat 8 (flagCode x)]
             (isForced k = true → takes 8 n 1 v .readOnly s)
               ∧ (isForced k = false → takes 8 n 1 v .done (with' { c with alarms := setEnable c.alarms x k })
                 ∧ ∀ j, enableOf (setEnable c.alarms x k) j = if j = k then x else enableOf c.alarms j))
           ∧ (∀ a : Addr, a ≠ 0 →
             let e := s.station a
             let n := BitVec.ofNat 8 a.val
             (∀ b d : Byte, quantity 1 n 7 [b, d] 60 65535 (fun x => s.setStation a { e with silence := x }))
               ∧ ∀ x, takes 1 n 12 [BitVec.ofNat 8 (flagCode x)] .done (s.setStation a { e with watched := x }))
           ∧ (∀ b d : Byte,
             quantity 3 12 3 [b, d] 10 300 (fun x => with' { c with common := { c.common with travelTime := x } })
               ∧ quantity 3 12 4 [b, d] 0 900 (fun x => with' { c with common := { c.common with overrun := x } })
               ∧ quantity 5 0 3 [b, d] 20 1000 (fun x => with' { c with tank := { c.tank with jumpLimit := x } })
               ∧ (∀ e g : Byte, quantity 5 0 4 [b, d, e, g] 600 86400
                   (fun x => with' { c with tank := { c.tank with staleLimit := x } }))
               ∧ quantity 5 0 8 [b, d] 20 2000
                   (fun x => with' { c with accounts := { c.accounts with deliveryThreshold := x } })
               ∧ quantity 5 0 9 [b, d] 10 500
                   (fun x => with' { c with accounts := { c.accounts with leakThreshold := x } })
               ∧ quantity 6 0 1 [b] 1 12 (fun x => with' { c with burner := { c.burner with startsPerHour := x } })
               ∧ (let w := (b ++ d).toInt
                 takes 6 0 2 [b, d] (if -200 ≤ w ∧ w ≤ 100 then .done else .doneClamped)
                   (with' { c with burner := { c.burner with preheatThreshold := max (-200) (min w 100) } }))
               ∧ quantity 6 0 3 [b, d] 0 600 (fun x => with' { c with burner := { c.burner with preheatTime := x } })
               ∧ quantity 6 0 4 [b] 10 120 (fun x => with' { c with burner := { c.burner with responseLimit := x } })
               ∧ quantity 6 0 5 [b] 20 120 (fun x => with' { c with burner := { c.burner with provingTime := x } })
               ∧ quantity 6 0 6 [b] 20 255 (fun x => with' { c with burner := { c.burner with slowLimit := x } })
               ∧ quantity 6 0 7 [b, d] 0 900 (fun x => with' { c with burner := { c.burner with minimumRun := x } }))
           ∧ ∀ (z : ZoneId) (b d : Byte),
             let n := BitVec.ofNat 8 z.val
             let zoned (m : Byte) (lo hi : Nat) (g : Nat → ZoneSettings) : Prop :=
               ∃ t, exec (.writeField req 3 n m [b, d]) s = .next t
                 ∧ t.mgmt = wrote s req 3 n m [b, d] (rangeResult lo hi (halfOf b d))
                 ∧ t = { zonesTouched s t with
                         mgmt := t.mgmt, settings := (s.setZoneCfg z (g (max lo (min (halfOf b d) hi)))).settings }
             zoned 7 0 7200 (fun x => { s.zoneCfg z with holdTime := x })
               ∧ zoned 9 600 14400 (fun x => { s.zoneCfg z with boostPeriod := x }))

/-- WRITE_STATION_CLASS, WRITE_STATION_SEGMENT, WRITE_POLL_FLAG and WRITE_POLL_PERIOD (R36, R40, R44, R45): a class
configures the entry, with the class's silence limit when it was EMPTY, and EMPTY returns it to its unlearned state; a
class change makes the unit record absent; UNKNOWN is refused for a pinned entry, and a pin for an UNKNOWN segment;
the poll period, clamped from 60 to 3,600 s, trims every countdown. The other entries keep their configuration, and
entry 0 is read-only. -/
def Obligations.StationWritesChangeTheEntry : Prop :=
  ∀ (s : State) (req : Requester) (a : Addr), acceptsWrite s req →
    let i := BitVec.ofNat 8 a.val
    let e := s.station a
    let only (c : Instr) (n : Byte) (v : List Byte) (r : Result) (u : State) : Prop :=
      exec c s = .next (withMgmt u (wrote s req 1 i n v r))
    (a ≠ 0 →
        (∀ (k : StationClass), ∃ t, exec (.writeStationClass req a [BitVec.ofNat 8 (classCode k)]) s = .next t
            ∧ t.mgmt = wrote s req 1 i 1 [BitVec.ofNat 8 (classCode k)] .done
            ∧ t.station a =
              (if k = .empty then { silence := e.silence, countdown := s.settings.pollPeriod }
              else
                { e with
                  cls := k, configured := true
                  silence := if e.cls = .empty then silenceDefault e.silence k else e.silence })
            ∧ (∀ d, d ≠ a → t.station d = s.station d)
            ∧ (k ≠ e.cls → t.unitRecord a = none) ∧ (k = e.cls → t.unitRecord a = s.unitRecord a)
            ∧ (∀ d, d ≠ a → t.unitRecord d = s.unitRecord d) ∧ t.settings = s.settings)
          ∧ (∀ g : Option Segment,
              (g = none ∧ e.pinned = true →
                only (.writeStationSegment req a .segment [BitVec.ofNat 8 (segmentCode g)]) 3
                  [BitVec.ofNat 8 (segmentCode g)] .badValue s)
                ∧ (g ≠ none ∨ e.pinned = false →
                  only (.writeStationSegment req a .segment [BitVec.ofNat 8 (segmentCode g)]) 3
                    [BitVec.ofNat 8 (segmentCode g)] .done (s.setStation a { e with segment := g })))
          ∧ (∀ p : Bool,
              (p = true ∧ e.segment = none →
                only (.writeStationSegment req a .pinned [BitVec.ofNat 8 (flagCode p)]) 4
                  [BitVec.ofNat 8 (flagCode p)] .badValue s)
                ∧ (p = false ∨ e.segment ≠ none →
                  only (.writeStationSegment req a .pinned [BitVec.ofNat 8 (flagCode p)]) 4
                    [BitVec.ofNat 8 (flagCode p)] .done (s.setStation a { e with pinned := p })))
          ∧ only (.writePollFlag req a [0]) 13 [0] .done (s.setStation a { e with poll := false })
          ∧ (∃ t, exec (.writePollFlag req a [1]) s = .next t ∧ t.mgmt = wrote s req 1 i 13 [1] .done
              ∧ (∀ d, t.station d = if d = a then { e with poll := true } else s.station d)
              ∧ (s.table.inFlight ≠ none → t.table.inFlight = s.table.inFlight)
              ∧ (s.table.inFlight = none → e.countdown = 0 → t.table.inFlight ≠ none)
              ∧ t.settings = s.settings)
          ∧ (∀ b c : Byte,
              let n := max 60 (min (halfOf b c) 3600)
              ∃ t, exec (.writePollPeriod req a [b, c]) s = .next t
                ∧ t.mgmt = wrote s req 1 i 20 [b, c] (rangeResult 60 3600 (halfOf b c))
                ∧ t = { s with
                        mgmt := t.mgmt, settings := { s.settings with pollPeriod := n }
                        table := { s.table with entries := t.table.entries } }
                ∧ ∀ d, t.station d = { s.station d with countdown := min (s.station d).countdown n }))
      ∧ (a = 0 → ∀ v,
          only (.writeStationClass req a v) 1 v (if v = [] then .badField else if v.length ≤ 4 then .readOnly else .badValue) s)

/-- WRITE_ZONE_ENABLE and WRITE_VALVE_OUTPUT (R43, R48, R54, R63): a cleared enable puts the zone in its disabled
state; a set one starts the hold timer of a zone with no present unit, or takes it to FALLBACK where the hold time is
0; an output that another zone holds is refused, and any other becomes the zone's: it is placed in CLOSING with its
travel timer started, or CLOSED at once where its end switch counts as open, and the zone's command then applies to
it, while the old output is de-energised and follows R61. The other zones' calls, the unit records and the other
settings are untouched. -/
def Obligations.ZoneEnableAndOutputWrites : Prop :=
  ∀ (s : State) (req : Requester) (z : ZoneId), acceptsWrite s req →
    let i := BitVec.ofNat 8 z.val
    let c := s.zoneCfg z
    let travelTime := s.settings.common.travelTime
    let after (x : Instr) (n v : Byte) (d : ZoneSettings) (P : State → Prop) : Prop := ∃ t, exec x s = .next t
      ∧ t.mgmt = wrote s req 3 i n [v] .done ∧ P t
      ∧ t = { zonesTouched s t with mgmt := t.mgmt, settings := (s.setZoneCfg z d).settings }
      ∧ ∀ y, y ≠ z → (t.zone y).demand = (s.zone y).demand ∧ (t.zone y).level = (s.zone y).level
          ∧ (t.zone y).accepted = (s.zone y).accepted
    (c.enable = true →
        after (.writeZoneEnable req z [0]) 2 0 { c with enable := false } fun t =>
          t.zone z = {} ∧ ∀ o, holderOf s o = some z → (t.valve o).drive = false)
      ∧ (c.enable = false → presentUnits s z = [] → 0 < c.holdTime →
        after (.writeZoneEnable req z [1]) 2 1 { c with enable := true } fun t =>
          (t.zone z).hold = some c.holdTime ∧ (t.zone z).demand = .idle ∧ (t.zone z).level = 0
            ∧ (t.zone z).accepted = false)
      ∧ (c.enable = false → presentUnits s z = [] → c.holdTime = 0 →
        after (.writeZoneEnable req z [1]) 2 1 { c with enable := true } fun t =>
          (t.zone z).hold = none ∧ (t.zone z).demand = .fallback)
      ∧ (∀ o : OutputId, c.output ≠ some o → (∀ y, y ≠ z → (s.zoneCfg y).output ≠ some o) →
        after (.writeValveOutput req z [BitVec.ofNat 8 o.val]) 6 (BitVec.ofNat 8 o.val)
          { c with output := some o } fun t =>
            let v := s.valve o
            let w := t.valve o
            (t.zoneCfg z).output = some o ∧ w.drive = driveWanted t o ∧ w.switch = v.switch
              ∧ (w.drive = false → v.switch = some false → w.state = .closed ∧ w.travel = none)
              ∧ (w.drive = false → v.switch ≠ some false → w.state = .closing ∧ w.travel = some travelTime)
              ∧ (w.drive = true → v.switch = some true → w.state = .open ∧ w.travel = none)
              ∧ (w.drive = true → v.switch ≠ some true → w.state = .opening ∧ w.travel = some travelTime)
              ∧ (∀ p, p ≠ o → driveColumns travelTime (s.valve p) (t.valve p))
              ∧ ∀ p, c.output = some p → (∀ y, y ≠ z → (s.zoneCfg y).output ≠ some p) → (t.valve p).drive = false)
      ∧ (∀ o : OutputId, c.output = some o → (∀ y, y ≠ z → (s.zoneCfg y).output ≠ some o) →
        exec (.writeValveOutput req z [BitVec.ofNat 8 o.val]) s
          = .next (withMgmt s (wrote s req 3 i 6 [BitVec.ofNat 8 o.val] .done)))
      ∧ (c.output ≠ none → after (.writeValveOutput req z [255]) 6 255 { c with output := none } fun t =>
          (∀ o, c.output = some o → (∀ y, y ≠ z → (s.zoneCfg y).output ≠ some o) → (t.valve o).drive = false)
            ∧ ∀ p, driveColumns travelTime (s.valve p) (t.valve p))
      ∧ (∀ (o : OutputId) (y : ZoneId), y ≠ z → (s.zoneCfg y).output = some o →
        exec (.writeValveOutput req z [BitVec.ofNat 8 o.val]) s
          = .next (withMgmt s (wrote s req 3 i 6 [BitVec.ofNat 8 o.val] .badValue)))

/-- WRITE_ZONE_SETTING and WRITE_FLOOR_SETTING (R43, R46, R55, R57, R68, R182): the setting takes the value, clamped
to its range, and the zone is re-evaluated; a type or limit ends the zone's priority call, and one still standing
begins afresh with the limit written; a floor setting gives the effective floor, which is the greater of the
management floor and the tank's contribution. That a type or limit written ends the priority call, and any setting
written re-evaluates the zone, also when the value is the one held, is the model's reading (log entry 22). A frost
floor is signed, as every temperature is. -/
def Obligations.ZoneAndFloorSettingWrites : Prop :=
  ∀ (s : State) (req : Requester) (z : ZoneId), acceptsWrite s req →
    let i := BitVec.ofNat 8 z.val
    let c := s.zoneCfg z
    let after (x : Instr) (n : Byte) (v : List Byte) (r : Result) (d : ZoneSettings) (P : Zone → Prop) : Prop :=
      ∃ t, exec x s = .next t ∧ t.mgmt = wrote s req 3 i n v r
        ∧ t = { zonesTouched s t with mgmt := t.mgmt, settings := (s.setZoneCfg z d).settings }
        ∧ (c.enable = true →
            (t.zone z).accepted = decideAccepted s.zones.floor (t.zone z).level ∧ P (t.zone z))
    let floors (x : Instr) (n v : Byte) (m : CommonSettings) : Prop :=
      ∃ t, exec x s = .next t ∧ t.mgmt = wrote s req 3 12 n [v] (rangeResult 0 7 v.toNat)
        ∧ t.settings = { s.settings with common := m }
        ∧ t.zones.floor = max s.settings.common.mgmtFloor (tankFloor m s.tank.state)
        ∧ (s.zones.floor ≠ t.zones.floor → ∀ y : ZoneId,
            (t.zone y).accepted = ((s.zoneCfg y).enable && decideAccepted t.zones.floor (s.zone y).level))
        ∧ (∀ y : ZoneId, (t.zone y).level = (s.zone y).level) ∧ t.tank = s.tank ∧ t.accounts = s.accounts
    (∀ y : ZoneType,
        after (.writeZoneSetting req z .type [BitVec.ofNat 8 (zoneTypeCode y)]) 1 [BitVec.ofNat 8 (zoneTypeCode y)]
          .done { c with type := y } fun r => y ≠ .cylinder → r.priority = none ∧ r.spent = false)
      ∧ (∀ b e f : Byte, ∀ l, bindingOf (numberOf [b, e, f]) = some l →
        after (.writeZoneSetting req z .bindingList [b, e, f]) 3 [b, e, f] .done { c with binding := l }
          fun _ => True)
      ∧ (∀ b : Byte, after (.writeZoneSetting req z .baseLevel [b]) 4 [b] (rangeResult 1 6 b.toNat)
          { c with baseLevel := max 1 (min b.toNat 6) } fun r =>
            (r.demand = .calling ∨ r.demand = .held) → r.boost = none → r.frost = false → c.type ≠ .outbuilding →
              r.level = max 1 (min b.toNat 6))
      ∧ (∀ b e : Byte,
          let x := (b ++ e : BitVec 16).toInt
          let n := max 0 (min x 150)
          after (.writeZoneSetting req z .frostFloor [b, e]) 5 [b, e] (if x = n then .done else .doneClamped)
            { c with frostFloor := n.toNat } fun r =>
              r.demand ≠ .fallback → (∃ y ∈ freshTemperatures s z, y < n) → r.frost = true ∧ r.level = 7)
      ∧ (∀ b : Byte, after (.writeZoneSetting req z .duty [b]) 8 [b] (rangeResult 0 60 b.toNat)
          { c with duty := min b.toNat 60 } fun r =>
            r.demand = .fallback → c.type ≠ .outbuilding →
              r.level = if s.time.timeOfDay % 3600 < 60 * min b.toNat 60 then c.baseLevel else 0)
      ∧ (∀ b e : Byte, after (.writeZoneSetting req z .limit [b, e]) 10 [b, e] (rangeResult 0 7200 (halfOf b e))
          { c with limit := min (halfOf b e) 7200 } fun r =>
            r.spent = false ∧ (r.priority = none ∨ r.priority = some (min (halfOf b e) 7200)))
      ∧ (∀ b : Byte, floors (.writeFloorSetting req .low [b]) 1 b
          { s.settings.common with lowFloor := min b.toNat 7 })
      ∧ (∀ b : Byte, floors (.writeFloorSetting req .unknown [b]) 2 b
          { s.settings.common with unknownFloor := min b.toNat 7 })

/-- WRITE_TANK_HEIGHT, WRITE_STRAPPING and WRITE_RESERVE_CUTOUT (R120, R121, R129, R130, R132, R134, R182): the
setting takes the clamped value. A height that changes empties the window and makes the volume UNKNOWN, and the height
held changes nothing; a slot or the point count leaves the window and gives the volume that the median has in the
table, or UNKNOWN in an invalid one; a threshold reclassifies the tank from the state and the volume it has. A volume
change goes to the fuel accounts and classifies the tank by the table of R130; an entry into LOW, EMPTY or UNKNOWN is
counted and raised with its detail (R131), and the effective floor and the suspend condition follow. With the reserve
below the cutout the order of the rows of R130 is the model's choice (log entry 29). -/
def Obligations.TankWritesRecomputeTheTank : Prop :=
  ∀ (s : State) (req : Requester), acceptsWrite s req →
    let k := s.settings.tank
    let after (x : Instr) (m : Mgmt) (d : TankSettings) (P : State → Prop) : Prop := ∃ t, exec x s = .next t
      ∧ t.mgmt = m ∧ t.settings = { s.settings with tank := d } ∧ t.time = s.time ∧ t.tank.temperature = s.tank.temperature
      ∧ P t
    let kept (t : State) : Prop :=
      t.tank.window = s.tank.window ∧ t.tank.pendingSlot = s.tank.pendingSlot ∧ t.tank.stale = s.tank.stale
    let measured (d : TankSettings) (t : State) : Prop :=
      kept t ∧ t.tank.valid = tableValid d ∧ volumeFollows .tableInvalid s t
        ∧ t.tank.volume =
          (if tableValid d then (medianOf s.tank.window).map (volumeAt (pointsInForce d)) else none)
    (∀ b c : Byte,
        let h := max 300 (min (halfOf b c) 4000)
        let m := wrote s req 5 0 1 [b, c] (rangeResult 300 4000 (halfOf b c))
        (h ≠ k.height →
            after (.writeTankHeight req [b, c]) m { k with height := h } fun t =>
              t.tank.window = [] ∧ t.tank.pendingSlot = none ∧ t.tank.stale = none ∧ t.tank.volume = none
                ∧ (s.tank.volume ≠ none → t.tank.state = .unknown) ∧ volumeFollows .heightWritten s t)
          ∧ (h = k.height → exec (.writeTankHeight req [b, c]) s = .next (withMgmt s m)))
      ∧ (∀ (i : Fin 16) (b c : Byte),
        let x := { k.strap[i] with height := min (halfOf b c) 4000 }
        let y := { k.strap[i] with volume := min (halfOf b c) 65534 }
        (i.val < k.pointCount →
            after (.writeStrapping req (.height i) [b, c])
                (wrote s req 4 (BitVec.ofNat 8 i.val) 1 [b, c] (rangeResult 0 4000 (halfOf b c)))
                { k with strap := upd k.strap i x } (measured { k with strap := upd k.strap i x })
              ∧ after (.writeStrapping req (.volume i) [b, c])
                (wrote s req 4 (BitVec.ofNat 8 i.val) 2 [b, c] (rangeResult 0 65534 (halfOf b c)))
                { k with strap := upd k.strap i y } (measured { k with strap := upd k.strap i y }))
          ∧ (k.pointCount ≤ i.val →
            after (.writeStrapping req (.height i) [b, c])
                (wrote s req 4 (BitVec.ofNat 8 i.val) 1 [b, c] (rangeResult 0 4000 (halfOf b c)))
                { k with strap := upd k.strap i x } (fun t => t.tank = s.tank)
              ∧ after (.writeStrapping req (.volume i) [b, c])
                (wrote s req 4 (BitVec.ofNat 8 i.val) 2 [b, c] (rangeResult 0 65534 (halfOf b c)))
                { k with strap := upd k.strap i y } (fun t => t.tank = s.tank)))
      ∧ (∀ b : Byte,
        let d := { k with pointCount := max 2 (min b.toNat 16) }
        after (.writeStrapping req .pointCount [b]) (wrote s req 5 0 2 [b] (rangeResult 2 16 b.toNat)) d (measured d))
      ∧ (∀ b c : Byte,
        let n := min (halfOf b c) 65534
        let r := rangeResult 0 65534 (halfOf b c)
        after (.writeReserveCutout req .reserve [b, c]) (wrote s req 5 0 5 [b, c] r) { k with reserve := n } (fun t =>
              kept t ∧ t.tank.volume = s.tank.volume ∧ t.tank.state = classify s.tank.state n k.cutout s.tank.volume
                ∧ (s.tank.volume ≠ none → tankFollows .stale s t))
          ∧ after (.writeReserveCutout req .cutout [b, c]) (wrote s req 5 0 6 [b, c] r) { k with cutout := n } (fun t =>
              kept t ∧ t.tank.volume = s.tank.volume
                ∧ t.tank.state = classify s.tank.state k.reserve n s.tank.volume
                ∧ (s.tank.volume ≠ none → tankFollows .stale s t)))
      ∧ ∀ (before : TankState) (reserve cutout v : Nat),
        classify before reserve cutout none = .unknown
          ∧ (before = .unknown ∨ before = .normal →
            classify before reserve cutout (some v) = if v ≤ cutout then .empty else if v ≤ reserve then .low else .normal)
          ∧ (before = .low →
            classify before reserve cutout (some v)
              = if v ≤ cutout then .empty else if v ≤ reserve + 50 then .low else .normal)
          ∧ (before = .empty →
            classify before reserve cutout (some v)
              = if v ≤ cutout + 50 then .empty else if v ≤ reserve + 50 then .low else .normal)

/-- WRITE_NOZZLE_RATE and WRITE_SAMPLE_INTERVAL (R139, R160, R182): the rate, clamped from 500 to 20,000 ml/h, acts on
later firing seconds alone; an interval that differs from the one in force sets the start count to 0, and the one in
force leaves it. COMMIT (R184, R193): a save of the settings area starts with the working settings as they stand, or
is made pending while a save runs. -/
def Obligations.RateIntervalAndCommit : Prop :=
  (∀ (s : State) (req : Requester), acceptsWrite s req →
     (∀ b c : Byte,
         exec (.writeNozzleRate req [b, c]) s = .next (withMgmt
           { s with settings :=
             { s.settings with accounts :=
               { s.settings.accounts with nozzleRate := max 500 (min (halfOf b c) 20000) } } }
           (wrote s req 5 0 7 [b, c] (rangeResult 500 20000 (halfOf b c)))))
       ∧ ∀ b : Byte,
         exec (.writeSampleInterval req [b]) s = .next (withMgmt
           (if b.toNat = s.settings.sampleInterval then s
           else
             { s with
               settings := { s.settings with sampleInterval := b.toNat }
               sampler := { s.sampler with count := 0 } })
           (wrote s req 6 0 8 [b] .done)))
    ∧ (∀ (s : State) (req : Requester), acceptsWrite s req →
         let m := answered s req .serviceTool 3 [] .done []
         (s.store.activity = .idle →
             exec (.commit req) s = .next (withMgmt
               { s with store :=
                 { s.store with activity := .savingSettings (settingsImage s), settingsPending := false } } m))
           ∧ (s.store.activity ≠ .idle →
             exec (.commit req) s = .next (withMgmt { s with store := { s.store with settingsPending := true } } m)))

/-- RELOAD (R42, R70, R136, R160, R184, R197): with the store idle, every working setting becomes the stored one, or
its factory default when the area fails, which raises SETTINGS_LOST. An entry stored with a class takes its stored
configuration, its segment with it when it is pinned; one stored EMPTY that is LEARNED keeps its class, segment and
silence limit and loses its flags and pin; one stored EMPTY that was CONFIGURED becomes EMPTY, with its silence limit.
The clock, the running area, the lockout records, the HARD latch, the reset-time list, the ring, the tally and the
last-heard ages stand. The line counts and the station counts stand too, and the burned count with its residue while
the measured volume and the tank state stay as they were; a volume that the new table changes may be reconciled
(R143). A changed sample interval sets the start count to 0, taken last (log entry 30). The order in which the blocks
take the replacement is the model's choice (log entry 11). An idle store whose tank change makes recovery enter HARD
starts that entry's save, also the model's choice (log entry 38), so nothing is said of the store's activity. -/
def Obligations.ReloadReplacesTheSettings : Prop :=
  ∀ (s : State) (req : Requester), acceptsWrite s req → s.store.activity = .idle →
    let img := if passes settingsBytes s.store.settings then s.store.settings.contents else factoryImage
    ∃ t, exec (.reload req) s = .next t ∧ t.mgmt = answered s req .serviceTool 4 [] .done []
      ∧ t.settings = img.settings ∧ t.time = s.time
      ∧ t.store.settings = s.store.settings ∧ t.store.running = s.store.running
      ∧ t.store.settingsPending = s.store.settingsPending
      ∧ t.store.settingsFailed = s.store.settingsFailed ∧ t.store.runningFailed = s.store.runningFailed
      ∧ (∀ a : Addr, a ≠ 0 → img.stations[a].cls ≠ .empty →
          t.station a =
            { s.station a with
              cls := img.stations[a].cls, configured := true, pinned := img.stations[a].pinned
              segment := if img.stations[a].pinned then img.stations[a].segment else (s.station a).segment
              silence := img.stations[a].silence, watched := img.stations[a].watched
              poll := img.stations[a].poll, countdown := min (s.station a).countdown img.settings.pollPeriod })
      ∧ (∀ a : Addr, a ≠ 0 → img.stations[a].cls = .empty →
          t.station a =
            if (s.station a).configured then
              { silence := (s.station a).silence, countdown := img.settings.pollPeriod }
            else
              { s.station a with
                pinned := img.stations[a].pinned, watched := img.stations[a].watched
                poll := img.stations[a].poll
                countdown := min (s.station a).countdown img.settings.pollPeriod })
      ∧ t.table.moves = s.table.moves ∧ t.table.conflicts = s.table.conflicts
      ∧ (s.table.inFlight ≠ none → t.table.inFlight = s.table.inFlight ∧ t.table.forced = s.table.forced
          ∧ t.table.pointer = s.table.pointer)
      ∧ (passes settingsBytes s.store.settings = false → isPending t .settingsLost)
      ∧ t.portA.queue = s.portA.queue ∧ t.portB.queue = s.portB.queue
      ∧ t.portA.counts = s.portA.counts ∧ t.portB.counts = s.portB.counts
      ∧ t.recovery.records = s.recovery.records ∧ t.recovery.resetTimes = s.recovery.resetTimes
      ∧ (s.recovery.hardLatch = true → t.recovery.hardLatch = true)
      ∧ t.accounts.ring = s.accounts.ring ∧ t.accounts.tally = s.accounts.tally
      ∧ (t.tank.volume = s.tank.volume →
          t.accounts.burned = s.accounts.burned ∧ t.accounts.residue = s.accounts.residue
            ∧ t.accounts.reference = s.accounts.reference
            ∧ (t.tank.state = s.tank.state → t.tank.counts = s.tank.counts))
      ∧ t.sampler.counters.firing = s.sampler.counters.firing
      ∧ t.sampler.counters.lockouts = s.sampler.counters.lockouts
      ∧ t.sampler.counters.autoResets = s.sampler.counters.autoResets
      ∧ (img.settings.sampleInterval ≠ s.settings.sampleInterval → t.sampler.count = 0)

/-- SET_FLOOR and SET_TIME (R49, R55, R56, R186): the floor, clamped to 7, becomes the management floor, and a change
of the effective floor recomputes every acceptance; the time, clamped to 86,399, and the day are taken with TIME_UNSET
cleared, no day is closed, and every zone is re-evaluated. That a midnight still to be taken does not follow is the
model's choice (log entry 4). -/
def Obligations.FloorAndTimeAreSet : Prop :=
  ∀ (s : State) (req : Requester) (rights : Rights), acceptsRequest s req rights →
    (∀ b : Byte, ∃ t, exec (.setFloor req b) s = .next t
        ∧ t.mgmt = answered s req rights 5 [b] (if 7 < b.toNat then .doneClamped else .done) []
        ∧ t.settings =
          { s.settings with common := { s.settings.common with mgmtFloor := min b.toNat 7 } }
        ∧ t.zones.floor = max (min b.toNat 7) (tankFloor s.settings.common s.tank.state)
        ∧ (s.zones.floor ≠ t.zones.floor → ∀ y : ZoneId,
            (t.zone y).accepted = ((s.zoneCfg y).enable && decideAccepted t.zones.floor (s.zone y).level))
        ∧ (∀ y : ZoneId, (t.zone y).level = (s.zone y).level)
        ∧ t.tank = s.tank ∧ t.accounts = s.accounts ∧ t.time = s.time ∧ t.store = s.store)
      ∧ ∀ (n : BitVec 24) (d : Half), ∃ t, exec (.setTime req n d) s = .next t
        ∧ t.mgmt = answered s req rights 6 (bytesOf 3 n.toNat ++ bytes2 d.toNat)
            (if 86399 < n.toNat then .doneClamped else .done) []
        ∧ t.time = { timeOfDay := min n.toNat 86399, day := d.toNat, unset := false, midnight := false }
        ∧ t = { zonesTouched s t with mgmt := t.mgmt, time := t.time }
        ∧ ∀ z : ZoneId, (s.zoneCfg z).enable = true → (t.zone z).demand = .fallback →
            (s.zoneCfg z).type ≠ .outbuilding →
            (t.zone z).level =
              if min n.toNat 86399 % 3600 < 60 * (s.zoneCfg z).duty then (s.zoneCfg z).baseLevel else 0

/-- RELEASE_SAMPLE and ACK_LEAK (R141, R146, R159): a VALID sample is RELEASED, and the record stays; any other phase
is left. The leak latch is cleared, the spacing timer restarts, and the books are rebased on the known volume or left
UNSET; a latch that was set is reported to recovery, whose suspend condition then follows the tank alone. -/
def Obligations.SampleReleasedAndLeakAcknowledged : Prop :=
  ∀ (s : State) (req : Requester) (rights : Rights), acceptsRequest s req rights →
    let m := answered s req rights 7 [] .done []
    let k := answered s req rights 8 [] .done []
    (s.sampler.phase = .valid → ∃ t, exec (.releaseSample req) s = .next t
        ∧ t = { statusTouched s t with mgmt := m, sampler := { s.sampler with phase := .released } })
      ∧ (s.sampler.phase ≠ .valid → exec (.releaseSample req) s = .next (withMgmt s m))
      ∧ ∃ t, exec (.ackLeak req) s = .next t ∧ t.mgmt = k
        ∧ t.accounts =
            { s.accounts with
              leak := false, spacing := some 3600, strikes := 0, burned := 0, residue := 0
              reference := s.tank.volume }
        ∧ t.tank = s.tank ∧ t.settings = s.settings
        ∧ (s.accounts.leak = false → t = { s with mgmt := k, accounts := t.accounts })
        ∧ (s.accounts.leak = true → t.recovery.suspend = (s.tank.state == .empty)
            ∧ (s.recovery.state = .suspended → s.recovery.suspend = true → s.tank.state ≠ .empty →
              t.recovery.state = .cooling ∨ t.recovery.state = .hard))

/-- CLEAR_HARD (R114, R115): in HARD with the SERVICE input closed and the store idle, the open record closes CLEARED,
the reset-time list empties, the HARD latch clears and recovery is IDLE with its service wait; the burner is released
from HARD_LOCKED; a save of the running area starts; and one service pulse is given while the LOCKOUT sense is risen
and no BURNER or RESET fault is latched. In any other state it is answered NOT_HARD and changes nothing. -/
def Obligations.ClearHardEndsHard : Prop :=
  ∀ (s : State) (req : Requester), acceptsWrite s req → s.mgmt.service = true → s.store.activity = .idle →
    (s.recovery.state = .hard → ∃ t, exec (.clearHard req) s = .next t
        ∧ t.mgmt = answered s req .serviceTool 9 [] .done []
        ∧ t.recovery =
          { s.recovery with
            state := .idle, hardLatch := false, resetTimes := [], service := some 10
            records := changeLast (fun r => { r with outcome := .cleared }) s.recovery.records
            pulse := if s.recovery.lockout && !resetHold s then some 1 else s.recovery.pulse }
        ∧ (s.recovery.lockout = true → resetHold s = false →
            t.monitor.reset.command = true ∧ t.monitor.reset.drive = true)
        ∧ (∃ i, t.store = { s.store with activity := .savingRunning i, runningPending := false }
            ∧ i.hardLatch = false ∧ i.resetTimes = [])
        ∧ (s.burner.state = .hardLocked → s.burner.demand = true → startDecided s t)
        ∧ (s.burner.state = .hardLocked → s.burner.demand = false → t.burner.state = .standby)
        ∧ (s.burner.state ≠ .hardLocked → t.burner = s.burner)
        ∧ t = { recoveryTouched s t with mgmt := t.mgmt })
      ∧ (s.recovery.state ≠ .hard →
        exec (.clearHard req) s = .next (withMgmt s (answered s req .serviceTool 9 [] .notHard [])))

/-- CLEAR_FAULT (R94, R164, R168): with the SERVICE input closed and the store idle, every fault latch is cleared, the
RESET drive follows its command again, the burner leaves OUTPUT_FAULT for the state recovery asks for, and each relay
whose latch was set is in CHECKING with its readback timer. Recovery is untouched. -/
def Obligations.ClearFaultReleasesTheLatches : Prop :=
  ∀ (s : State) (req : Requester), acceptsWrite s req → s.mgmt.service = true → s.store.activity = .idle →
    ∃ t, exec (.clearFault req) s = .next t ∧ t.mgmt = answered s req .serviceTool 10 [] .done []
      ∧ (∀ r, (t.relay r).fault = false ∧ (t.relay r).sense = (s.relay r).sense)
      ∧ (∀ r, (s.relay r).fault = true → (t.relay r).phase = .checking ∧ (t.relay r).timer = some 500)
      ∧ t.monitor.reset.command = s.monitor.reset.command ∧ t.monitor.reset.drive = t.monitor.reset.command
      ∧ t.recovery = s.recovery
      ∧ (s.burner.state = .outputFault →
          (holdsBurner s.recovery.state = true → t.burner.state = .lockedOut)
            ∧ (s.recovery.state = .hard → t.burner.state = .hardLocked)
            ∧ (s.recovery.state = .idle ∨ s.recovery.state = .observing → t.burner.state ≠ .outputFault
                ∧ t.burner.state ≠ .lockedOut ∧ t.burner.state ≠ .hardLocked))
      ∧ t.settings = s.settings ∧ t.tank = s.tank ∧ t.accounts = s.accounts ∧ t.time = s.time ∧ t.store = s.store

/-- CLEAR_COUNTERS and FORCE_POLL (R39, R162, R187): the line, station and gauge counts and the three run counters
that are not stored become 0; a station from 1 to 30 becomes the forced one, and is polled at once when no poll is in
flight; any other address is BAD_INDEX. REPLY_HAND_OVER and SERVICE_INPUT_CHANGE (R15, R178, R179): the reply goes to
the reply slot of the port of the request's segment once that is empty, and the unit becomes free; a full slot keeps
the unit handling. The SERVICE input's counted value changes for later requests alone. -/
def Obligations.CountersPollAndHandOver : Prop :=
  (∀ (s : State) (req : Requester) (rights : Rights), acceptsRequest s req rights →
     let forced (b : Byte) (r : Result) := answered s req rights 12 [b] r []
     (rights = .serviceTool →
         exec (.clearCounters req) s = .next
           { s with
             mgmt := answered s req rights 11 [] .done []
             portA := { s.portA with counts := {} }
             portB := { s.portB with counts := {} }
             table := { s.table with moves := 0, conflicts := 0 }
             tank := { s.tank with counts := {} }
             sampler :=
               { s.sampler with
                 counters := { s.sampler.counters with flameOuts := 0, slowStarts := 0, noResponse := 0 } } })
       ∧ (∀ b : Byte, b = 0 ∨ 30 < b.toNat →
         exec (.forcePoll req b) s = .next (withMgmt s (forced b .badIndex)))
       ∧ (∀ a : Addr, a ≠ 0 → s.table.inFlight ≠ none →
         exec (.forcePoll req (BitVec.ofNat 8 a.val)) s = .next
           { s with
             mgmt := forced (BitVec.ofNat 8 a.val) .done
             table := { s.table with forced := some a } })
       ∧ (∀ a : Addr, a ≠ 0 → s.table.inFlight = none →
         ∃ t i, exec (.forcePoll req (BitVec.ofNat 8 a.val)) s = .next t
           ∧ t.mgmt = forced (BitVec.ofNat 8 a.val) .done
           ∧ t.table.inFlight = some i ∧ i.station = a ∧ i.phase = .sending ∧ t.table.forced = none
           ∧ t.table.pointer = s.table.pointer ∧ t.ownSeq = s.ownSeq + 1 ∧ t.table.entries = s.table.entries
           ∧ t = { s with mgmt := t.mgmt, portA := t.portA, portB := t.portB, ownSeq := t.ownSeq, table := t.table }))
    ∧ (∀ s : State, s.powered = true →
         (∀ h f, s.mgmt.hand = some h → h.reply = some f → (s.port h.requester.segment).reply = none →
             exec .replyHandOver s = .next (withMgmt
               (s.setPort h.requester.segment
                 { s.port h.requester.segment with reply := some { frame := f, attempts := 0, wait := none } })
               { s.mgmt with hand := none }))
           ∧ (∀ h, s.mgmt.hand = some h → (s.port h.requester.segment).reply ≠ none →
             exec .replyHandOver s = .next s)
           ∧ ∀ closed, exec (.serviceInputChange closed) s = .next { s with mgmt := { s.mgmt with service := closed } })

/-- STATUS_NOW (R188): it is answered DONE with the packed status of six bytes, read from the sources of a STATUS
frame as they stand; no STATUS frame is built, and the STATUS timers and the status-due flag stand. -/
def Obligations.StatusNowAnswersPackedStatus : Prop :=
  ∀ (s : State) (req : Requester) (rights : Rights), acceptsRequest s req rights →
    let volume := s.tank.volume.getD 65535
    let flags := flagCode (sampleValid s) + 2 * flagCode s.accounts.leak + 4 * flagCode (outputFaultFlag s)
      + 8 * flagCode s.time.unset
    exec (.statusNow req) s = .next (withMgmt s (answered s req rights 13 [] .done
      [BitVec.ofNat 8 (16 * burnerCode s.burner.state + recoveryCode s.recovery.state),
        BitVec.ofNat 8 (16 * tankCode s.tank.state + s.zones.floor % 16),
        BitVec.ofNat 8 (volume / 256), BitVec.ofNat 8 volume,
        BitVec.ofNat 8 (16 * flags + (acceptedSet s).toNat / 256), BitVec.ofNat 8 (acceptedSet s).toNat]))

/-! ## Demand, starts, episodes and outputs -/

/-- A rise and a fall of burner demand (R64, R78, R79, R81, R83, R87, R88, R89, R95). A rise gives a start decision in
STANDBY and is only noted in every other state. A fall takes PACING and PREHEAT to STANDBY, the preheat choice dropped
and no start counted; in CALLED and STARTING, and in FIRING with no minimum run left, it withdraws the call, to RUN_ON
while RUN counts as risen and on to STANDBY, where the start ends, when it does not; in FIRING with a minimum run
left, and in every other state, it is only noted. Burner demand that is recomputed and stays as it was reaches
nothing, and the end switches are where it changes: the switch of the opening valve of an accepted zone closing makes
it rise, and the switch of the one open valve that counts opening makes it fall. The tagging of a start (R155, R156):
every call of the box that follows a start decision or a preheat counts one start; unless a VALID sample is held or
the sample interval is 0, the start count grows by one, and the start that brings it to the interval is tagged: the
count is 0 again, the phase is FILLING, and a new record holds the start's number, the time, its preheat, the measured
volume and the accepted zones as they stand, and no latency, firing second, flame-out or end yet. -/
def Obligations.DemandMovesSequencerAndStartIsTagged : Prop :=
  (let rises (s t : State) : Prop :=
     t.burner.demand = true
       ∧ (s.burner.state = .standby → startDecided s t)
       ∧ (s.burner.state ≠ .standby → t.burner = { s.burner with demand := true } ∧ t.sampler = s.sampler)
   let withdrawn (s t : State) : Prop :=
     t.burner.state = (if s.burner.run then .runOn else .standby)
       ∧ (s.burner.run = true → t.burner.start = s.burner.start)
       ∧ (s.burner.run = false → t.burner.start = none)
       ∧ t.burner.startDelay = none ∧ t.burner.pacing = none ∧ t.burner.preheat = none ∧ t.burner.response = none
       ∧ t.burner.proving = none ∧ t.burner.minimumRun = none ∧ t.burner.flameOut = none
       ∧ t.burner.firingSecond = none ∧ t.monitor.burner.command = false
       ∧ t.burner.startTimes = s.burner.startTimes
   let falls (s t : State) : Prop :=
     let d := { s.burner with demand := false }
     t.burner.demand = false
       ∧ (s.burner.state = .pacing → t.burner = { d with state := .standby, pacing := none } ∧ t.sampler = s.sampler)
       ∧ (s.burner.state = .preheat →
           t.burner = { d with state := .standby, preheat := none, preheatChosen := false }
             ∧ t.monitor.preheat.command = false ∧ t.sampler = s.sampler)
       ∧ (s.burner.state = .called ∨ s.burner.state = .starting → withdrawn s t)
       ∧ (s.burner.state = .firing → s.burner.minimumRun = none → withdrawn s t)
       ∧ (s.burner.state = .firing → s.burner.minimumRun ≠ none → t.burner = d ∧ t.sampler = s.sampler)
       ∧ (s.burner.state = .standby ∨ s.burner.state = .delayed ∨ s.burner.state = .runOn
             ∨ s.burner.state = .lockedOut ∨ s.burner.state = .hardLocked ∨ s.burner.state = .outputFault →
           t.burner = d ∧ t.sampler = s.sampler)
   (∀ s : State,
       let t := recomputeDemand s
       (demandWanted s = s.zones.demand → t = s)
         ∧ (demandWanted s = true → s.zones.demand = false →
             rises s t ∧ t = { burnerTouched s t with zones := { t.zones with demand := true } })
         ∧ (demandWanted s = false → s.zones.demand = true →
             falls s t ∧ t = { burnerTouched s t with zones := { t.zones with demand := false } }))
     ∧ (∀ (s : State) (o : OutputId) (z : ZoneId), s.powered = true → ZonesSettled s → s.zones.demand = false →
         holderOf s o = some z → (s.zone z).accepted = true → (s.zone z).deferred = false →
         (s.valve o).state = .opening → (s.valve o).switch = some false →
         ∃ t, exec (.switchClose o) s = .next t ∧ t.zones.demand = true ∧ rises s t ∧ t = zonesTouched s t)
     ∧ ∀ (s : State) (o : OutputId), s.powered = true → ZonesSettled s → s.zones.demand = true →
         (∀ z, addsDemand s z = true → (s.zoneCfg z).output = some o) →
         (s.valve o).state = .open → (s.valve o).switch = some true →
         ∃ t, exec (.switchOpen o) s = .next t ∧ t.zones.demand = false ∧ falls s t ∧ t = zonesTouched s t)
    ∧ (let counted (preheat : Bool) (s t : State) : Prop :=
         let c := { s.sampler.counters with starts := inc32 s.sampler.counters.starts }
         let n := s.settings.sampleInterval
         (s.sampler.phase = .valid ∨ n = 0 → t.sampler = { s.sampler with counters := c })
           ∧ (s.sampler.phase ≠ .valid → n ≠ 0 → s.sampler.count + 1 ≠ n →
               t.sampler = { s.sampler with counters := c, count := s.sampler.count + 1 })
           ∧ (s.sampler.phase ≠ .valid → n ≠ 0 → s.sampler.count + 1 = n →
               t.sampler =
                 { counters := c, count := 0, phase := .filling
                   record := some
                     { number := inc32 s.sampler.counters.starts, called := stampNow s, preheat := preheat
                       volume := s.tank.volume, accepted := acceptedSet s, latency := none, seconds := 0
                       flameOuts := 0, endCause := none } })
       ∀ s : State, s.powered = true →
         (s.burner.startTimes.filter (· < 3600)).length < s.settings.burner.startsPerHour →
         (s.burner.state = .preheat → s.burner.preheat = some 0 →
             ∃ t, exec .preheatExpiry s = .next t ∧ counted s.burner.preheatChosen s t)
           ∧ (s.burner.demand = true → choosesPreheat s = false →
             (s.burner.state = .pacing → s.burner.pacing = some 0 →
                 ∃ t, exec .pacingExpiry s = .next t ∧ counted s.burner.preheatChosen s t)
               ∧ (s.burner.state = .delayed → s.burner.startDelay = some 0 →
                 ∃ t, exec .startDelayExpiry s = .next t ∧ counted s.burner.preheatChosen s t)))

/-- Episodes, valve outputs and valves stay accounted for through every step (R43, R61, R98, R105): at most one
lockout record is OPEN, it is the newest, recovery is IDLE exactly while none is OPEN, and the HARD latch stands
exactly in HARD; and no two zones hold one valve output. What the store holds and what is being saved stay fit for the
next power-on and RELOAD. An energised valve is OPENING, OPEN or STUCK_CLOSED and a de-energised one CLOSING, CLOSED
or STUCK_OPEN, its travel timer runs exactly in OPENING and CLOSING, and none stays CLOSING whose end switch counts as
open. -/
def Obligations.StepKeepsEpisodesAndOutputs : Prop :=
  (∀ s t : State, EpisodeRecorded s → step s = .next t → EpisodeRecorded t)
    ∧ (∀ s t : State, OutputsHeldOnce s → step s = .next t → OutputsHeldOnce t)
    ∧ ∀ s t : State, ValvesFollow s → step s = .next t → ValvesFollow t

end
end

