-- ==== Sys2Proof/Laws/State.lean ====
section
/-! SUPPORT. For each named update of the state, one lemma per field it leaves as it stands, and what reading back what was
written gives. -/

namespace Sys2Proof.Machine

variable (s : State)

/-! ## setStation -/

@[simp] theorem State.setStation_pending (a : Addr) (e : Station) : (s.setStation a e).pending = s.pending := rfl
@[simp] theorem State.setStation_powered (a : Addr) (e : Station) : (s.setStation a e).powered = s.powered := rfl
@[simp] theorem State.setStation_free (a : Addr) (e : Station) : (s.setStation a e).free = s.free := rfl
@[simp] theorem State.setStation_settings (a : Addr) (e : Station) : (s.setStation a e).settings = s.settings := rfl
@[simp] theorem State.setStation_portA (a : Addr) (e : Station) : (s.setStation a e).portA = s.portA := rfl
@[simp] theorem State.setStation_portB (a : Addr) (e : Station) : (s.setStation a e).portB = s.portB := rfl
@[simp] theorem State.setStation_ownSeq (a : Addr) (e : Station) : (s.setStation a e).ownSeq = s.ownSeq := rfl
@[simp] theorem State.setStation_zones (a : Addr) (e : Station) : (s.setStation a e).zones = s.zones := rfl
@[simp] theorem State.setStation_burner (a : Addr) (e : Station) : (s.setStation a e).burner = s.burner := rfl
@[simp] theorem State.setStation_recovery (a : Addr) (e : Station) : (s.setStation a e).recovery = s.recovery := rfl
@[simp] theorem State.setStation_tank (a : Addr) (e : Station) : (s.setStation a e).tank = s.tank := rfl
@[simp] theorem State.setStation_accounts (a : Addr) (e : Station) : (s.setStation a e).accounts = s.accounts := rfl
@[simp] theorem State.setStation_sampler (a : Addr) (e : Station) : (s.setStation a e).sampler = s.sampler := rfl
@[simp] theorem State.setStation_monitor (a : Addr) (e : Station) : (s.setStation a e).monitor = s.monitor := rfl
@[simp] theorem State.setStation_alarms (a : Addr) (e : Station) : (s.setStation a e).alarms = s.alarms := rfl
@[simp] theorem State.setStation_mgmt (a : Addr) (e : Station) : (s.setStation a e).mgmt = s.mgmt := rfl
@[simp] theorem State.setStation_time (a : Addr) (e : Station) : (s.setStation a e).time = s.time := rfl
@[simp] theorem State.setStation_store (a : Addr) (e : Station) : (s.setStation a e).store = s.store := rfl

/-! ## setZone -/

@[simp] theorem State.setZone_pending (z : ZoneId) (r : Zone) : (s.setZone z r).pending = s.pending := rfl
@[simp] theorem State.setZone_powered (z : ZoneId) (r : Zone) : (s.setZone z r).powered = s.powered := rfl
@[simp] theorem State.setZone_free (z : ZoneId) (r : Zone) : (s.setZone z r).free = s.free := rfl
@[simp] theorem State.setZone_settings (z : ZoneId) (r : Zone) : (s.setZone z r).settings = s.settings := rfl
@[simp] theorem State.setZone_portA (z : ZoneId) (r : Zone) : (s.setZone z r).portA = s.portA := rfl
@[simp] theorem State.setZone_portB (z : ZoneId) (r : Zone) : (s.setZone z r).portB = s.portB := rfl
@[simp] theorem State.setZone_ownSeq (z : ZoneId) (r : Zone) : (s.setZone z r).ownSeq = s.ownSeq := rfl
@[simp] theorem State.setZone_table (z : ZoneId) (r : Zone) : (s.setZone z r).table = s.table := rfl
@[simp] theorem State.setZone_burner (z : ZoneId) (r : Zone) : (s.setZone z r).burner = s.burner := rfl
@[simp] theorem State.setZone_recovery (z : ZoneId) (r : Zone) : (s.setZone z r).recovery = s.recovery := rfl
@[simp] theorem State.setZone_tank (z : ZoneId) (r : Zone) : (s.setZone z r).tank = s.tank := rfl
@[simp] theorem State.setZone_accounts (z : ZoneId) (r : Zone) : (s.setZone z r).accounts = s.accounts := rfl
@[simp] theorem State.setZone_sampler (z : ZoneId) (r : Zone) : (s.setZone z r).sampler = s.sampler := rfl
@[simp] theorem State.setZone_monitor (z : ZoneId) (r : Zone) : (s.setZone z r).monitor = s.monitor := rfl
@[simp] theorem State.setZone_alarms (z : ZoneId) (r : Zone) : (s.setZone z r).alarms = s.alarms := rfl
@[simp] theorem State.setZone_mgmt (z : ZoneId) (r : Zone) : (s.setZone z r).mgmt = s.mgmt := rfl
@[simp] theorem State.setZone_time (z : ZoneId) (r : Zone) : (s.setZone z r).time = s.time := rfl
@[simp] theorem State.setZone_store (z : ZoneId) (r : Zone) : (s.setZone z r).store = s.store := rfl

/-! ## setZoneCfg -/

@[simp] theorem State.setZoneCfg_pending (z : ZoneId) (c : ZoneSettings) : (s.setZoneCfg z c).pending = s.pending := rfl
@[simp] theorem State.setZoneCfg_powered (z : ZoneId) (c : ZoneSettings) : (s.setZoneCfg z c).powered = s.powered := rfl
@[simp] theorem State.setZoneCfg_free (z : ZoneId) (c : ZoneSettings) : (s.setZoneCfg z c).free = s.free := rfl
@[simp] theorem State.setZoneCfg_portA (z : ZoneId) (c : ZoneSettings) : (s.setZoneCfg z c).portA = s.portA := rfl
@[simp] theorem State.setZoneCfg_portB (z : ZoneId) (c : ZoneSettings) : (s.setZoneCfg z c).portB = s.portB := rfl
@[simp] theorem State.setZoneCfg_ownSeq (z : ZoneId) (c : ZoneSettings) : (s.setZoneCfg z c).ownSeq = s.ownSeq := rfl
@[simp] theorem State.setZoneCfg_table (z : ZoneId) (c : ZoneSettings) : (s.setZoneCfg z c).table = s.table := rfl
@[simp] theorem State.setZoneCfg_zones (z : ZoneId) (c : ZoneSettings) : (s.setZoneCfg z c).zones = s.zones := rfl
@[simp] theorem State.setZoneCfg_burner (z : ZoneId) (c : ZoneSettings) : (s.setZoneCfg z c).burner = s.burner := rfl
@[simp] theorem State.setZoneCfg_recovery (z : ZoneId) (c : ZoneSettings) : (s.setZoneCfg z c).recovery = s.recovery := rfl
@[simp] theorem State.setZoneCfg_tank (z : ZoneId) (c : ZoneSettings) : (s.setZoneCfg z c).tank = s.tank := rfl
@[simp] theorem State.setZoneCfg_accounts (z : ZoneId) (c : ZoneSettings) : (s.setZoneCfg z c).accounts = s.accounts := rfl
@[simp] theorem State.setZoneCfg_sampler (z : ZoneId) (c : ZoneSettings) : (s.setZoneCfg z c).sampler = s.sampler := rfl
@[simp] theorem State.setZoneCfg_monitor (z : ZoneId) (c : ZoneSettings) : (s.setZoneCfg z c).monitor = s.monitor := rfl
@[simp] theorem State.setZoneCfg_alarms (z : ZoneId) (c : ZoneSettings) : (s.setZoneCfg z c).alarms = s.alarms := rfl
@[simp] theorem State.setZoneCfg_mgmt (z : ZoneId) (c : ZoneSettings) : (s.setZoneCfg z c).mgmt = s.mgmt := rfl
@[simp] theorem State.setZoneCfg_time (z : ZoneId) (c : ZoneSettings) : (s.setZoneCfg z c).time = s.time := rfl
@[simp] theorem State.setZoneCfg_store (z : ZoneId) (c : ZoneSettings) : (s.setZoneCfg z c).store = s.store := rfl

/-! ## setUnit -/

@[simp] theorem State.setUnit_pending (a : Addr) (u : Option UnitRecord) : (s.setUnit a u).pending = s.pending := rfl
@[simp] theorem State.setUnit_powered (a : Addr) (u : Option UnitRecord) : (s.setUnit a u).powered = s.powered := rfl
@[simp] theorem State.setUnit_free (a : Addr) (u : Option UnitRecord) : (s.setUnit a u).free = s.free := rfl
@[simp] theorem State.setUnit_settings (a : Addr) (u : Option UnitRecord) : (s.setUnit a u).settings = s.settings := rfl
@[simp] theorem State.setUnit_portA (a : Addr) (u : Option UnitRecord) : (s.setUnit a u).portA = s.portA := rfl
@[simp] theorem State.setUnit_portB (a : Addr) (u : Option UnitRecord) : (s.setUnit a u).portB = s.portB := rfl
@[simp] theorem State.setUnit_ownSeq (a : Addr) (u : Option UnitRecord) : (s.setUnit a u).ownSeq = s.ownSeq := rfl
@[simp] theorem State.setUnit_table (a : Addr) (u : Option UnitRecord) : (s.setUnit a u).table = s.table := rfl
@[simp] theorem State.setUnit_burner (a : Addr) (u : Option UnitRecord) : (s.setUnit a u).burner = s.burner := rfl
@[simp] theorem State.setUnit_recovery (a : Addr) (u : Option UnitRecord) : (s.setUnit a u).recovery = s.recovery := rfl
@[simp] theorem State.setUnit_tank (a : Addr) (u : Option UnitRecord) : (s.setUnit a u).tank = s.tank := rfl
@[simp] theorem State.setUnit_accounts (a : Addr) (u : Option UnitRecord) : (s.setUnit a u).accounts = s.accounts := rfl
@[simp] theorem State.setUnit_sampler (a : Addr) (u : Option UnitRecord) : (s.setUnit a u).sampler = s.sampler := rfl
@[simp] theorem State.setUnit_monitor (a : Addr) (u : Option UnitRecord) : (s.setUnit a u).monitor = s.monitor := rfl
@[simp] theorem State.setUnit_alarms (a : Addr) (u : Option UnitRecord) : (s.setUnit a u).alarms = s.alarms := rfl
@[simp] theorem State.setUnit_mgmt (a : Addr) (u : Option UnitRecord) : (s.setUnit a u).mgmt = s.mgmt := rfl
@[simp] theorem State.setUnit_time (a : Addr) (u : Option UnitRecord) : (s.setUnit a u).time = s.time := rfl
@[simp] theorem State.setUnit_store (a : Addr) (u : Option UnitRecord) : (s.setUnit a u).store = s.store := rfl

/-! ## setValve -/

@[simp] theorem State.setValve_pending (o : OutputId) (v : Valve) : (s.setValve o v).pending = s.pending := rfl
@[simp] theorem State.setValve_powered (o : OutputId) (v : Valve) : (s.setValve o v).powered = s.powered := rfl
@[simp] theorem State.setValve_free (o : OutputId) (v : Valve) : (s.setValve o v).free = s.free := rfl
@[simp] theorem State.setValve_settings (o : OutputId) (v : Valve) : (s.setValve o v).settings = s.settings := rfl
@[simp] theorem State.setValve_portA (o : OutputId) (v : Valve) : (s.setValve o v).portA = s.portA := rfl
@[simp] theorem State.setValve_portB (o : OutputId) (v : Valve) : (s.setValve o v).portB = s.portB := rfl
@[simp] theorem State.setValve_ownSeq (o : OutputId) (v : Valve) : (s.setValve o v).ownSeq = s.ownSeq := rfl
@[simp] theorem State.setValve_table (o : OutputId) (v : Valve) : (s.setValve o v).table = s.table := rfl
@[simp] theorem State.setValve_burner (o : OutputId) (v : Valve) : (s.setValve o v).burner = s.burner := rfl
@[simp] theorem State.setValve_recovery (o : OutputId) (v : Valve) : (s.setValve o v).recovery = s.recovery := rfl
@[simp] theorem State.setValve_tank (o : OutputId) (v : Valve) : (s.setValve o v).tank = s.tank := rfl
@[simp] theorem State.setValve_accounts (o : OutputId) (v : Valve) : (s.setValve o v).accounts = s.accounts := rfl
@[simp] theorem State.setValve_sampler (o : OutputId) (v : Valve) : (s.setValve o v).sampler = s.sampler := rfl
@[simp] theorem State.setValve_monitor (o : OutputId) (v : Valve) : (s.setValve o v).monitor = s.monitor := rfl
@[simp] theorem State.setValve_alarms (o : OutputId) (v : Valve) : (s.setValve o v).alarms = s.alarms := rfl
@[simp] theorem State.setValve_mgmt (o : OutputId) (v : Valve) : (s.setValve o v).mgmt = s.mgmt := rfl
@[simp] theorem State.setValve_time (o : OutputId) (v : Valve) : (s.setValve o v).time = s.time := rfl
@[simp] theorem State.setValve_store (o : OutputId) (v : Valve) : (s.setValve o v).store = s.store := rfl

/-! ## setRelay -/

@[simp] theorem State.setRelay_pending (r : Relay) (x : RelayState) : (s.setRelay r x).pending = s.pending := rfl
@[simp] theorem State.setRelay_powered (r : Relay) (x : RelayState) : (s.setRelay r x).powered = s.powered := rfl
@[simp] theorem State.setRelay_free (r : Relay) (x : RelayState) : (s.setRelay r x).free = s.free := rfl
@[simp] theorem State.setRelay_settings (r : Relay) (x : RelayState) : (s.setRelay r x).settings = s.settings := rfl
@[simp] theorem State.setRelay_portA (r : Relay) (x : RelayState) : (s.setRelay r x).portA = s.portA := rfl
@[simp] theorem State.setRelay_portB (r : Relay) (x : RelayState) : (s.setRelay r x).portB = s.portB := rfl
@[simp] theorem State.setRelay_ownSeq (r : Relay) (x : RelayState) : (s.setRelay r x).ownSeq = s.ownSeq := rfl
@[simp] theorem State.setRelay_table (r : Relay) (x : RelayState) : (s.setRelay r x).table = s.table := rfl
@[simp] theorem State.setRelay_zones (r : Relay) (x : RelayState) : (s.setRelay r x).zones = s.zones := rfl
@[simp] theorem State.setRelay_burner (r : Relay) (x : RelayState) : (s.setRelay r x).burner = s.burner := rfl
@[simp] theorem State.setRelay_recovery (r : Relay) (x : RelayState) : (s.setRelay r x).recovery = s.recovery := rfl
@[simp] theorem State.setRelay_tank (r : Relay) (x : RelayState) : (s.setRelay r x).tank = s.tank := rfl
@[simp] theorem State.setRelay_accounts (r : Relay) (x : RelayState) : (s.setRelay r x).accounts = s.accounts := rfl
@[simp] theorem State.setRelay_sampler (r : Relay) (x : RelayState) : (s.setRelay r x).sampler = s.sampler := rfl
@[simp] theorem State.setRelay_alarms (r : Relay) (x : RelayState) : (s.setRelay r x).alarms = s.alarms := rfl
@[simp] theorem State.setRelay_mgmt (r : Relay) (x : RelayState) : (s.setRelay r x).mgmt = s.mgmt := rfl
@[simp] theorem State.setRelay_time (r : Relay) (x : RelayState) : (s.setRelay r x).time = s.time := rfl
@[simp] theorem State.setRelay_store (r : Relay) (x : RelayState) : (s.setRelay r x).store = s.store := rfl

/-! ## setZones -/

@[simp] theorem State.setZones_pending (v : Vector Zone 12) : (s.setZones v).pending = s.pending := rfl
@[simp] theorem State.setZones_powered (v : Vector Zone 12) : (s.setZones v).powered = s.powered := rfl
@[simp] theorem State.setZones_free (v : Vector Zone 12) : (s.setZones v).free = s.free := rfl
@[simp] theorem State.setZones_settings (v : Vector Zone 12) : (s.setZones v).settings = s.settings := rfl
@[simp] theorem State.setZones_portA (v : Vector Zone 12) : (s.setZones v).portA = s.portA := rfl
@[simp] theorem State.setZones_portB (v : Vector Zone 12) : (s.setZones v).portB = s.portB := rfl
@[simp] theorem State.setZones_ownSeq (v : Vector Zone 12) : (s.setZones v).ownSeq = s.ownSeq := rfl
@[simp] theorem State.setZones_table (v : Vector Zone 12) : (s.setZones v).table = s.table := rfl
@[simp] theorem State.setZones_burner (v : Vector Zone 12) : (s.setZones v).burner = s.burner := rfl
@[simp] theorem State.setZones_recovery (v : Vector Zone 12) : (s.setZones v).recovery = s.recovery := rfl
@[simp] theorem State.setZones_tank (v : Vector Zone 12) : (s.setZones v).tank = s.tank := rfl
@[simp] theorem State.setZones_accounts (v : Vector Zone 12) : (s.setZones v).accounts = s.accounts := rfl
@[simp] theorem State.setZones_sampler (v : Vector Zone 12) : (s.setZones v).sampler = s.sampler := rfl
@[simp] theorem State.setZones_monitor (v : Vector Zone 12) : (s.setZones v).monitor = s.monitor := rfl
@[simp] theorem State.setZones_alarms (v : Vector Zone 12) : (s.setZones v).alarms = s.alarms := rfl
@[simp] theorem State.setZones_mgmt (v : Vector Zone 12) : (s.setZones v).mgmt = s.mgmt := rfl
@[simp] theorem State.setZones_time (v : Vector Zone 12) : (s.setZones v).time = s.time := rfl
@[simp] theorem State.setZones_store (v : Vector Zone 12) : (s.setZones v).store = s.store := rfl

/-! ## takeSeq -/

@[simp] theorem State.takeSeq_pending (k : BitVec 4) : (s.takeSeq k).pending = s.pending := rfl
@[simp] theorem State.takeSeq_powered (k : BitVec 4) : (s.takeSeq k).powered = s.powered := rfl
@[simp] theorem State.takeSeq_free (k : BitVec 4) : (s.takeSeq k).free = s.free := rfl
@[simp] theorem State.takeSeq_settings (k : BitVec 4) : (s.takeSeq k).settings = s.settings := rfl
@[simp] theorem State.takeSeq_portA (k : BitVec 4) : (s.takeSeq k).portA = s.portA := rfl
@[simp] theorem State.takeSeq_portB (k : BitVec 4) : (s.takeSeq k).portB = s.portB := rfl
@[simp] theorem State.takeSeq_zones (k : BitVec 4) : (s.takeSeq k).zones = s.zones := rfl
@[simp] theorem State.takeSeq_burner (k : BitVec 4) : (s.takeSeq k).burner = s.burner := rfl
@[simp] theorem State.takeSeq_recovery (k : BitVec 4) : (s.takeSeq k).recovery = s.recovery := rfl
@[simp] theorem State.takeSeq_tank (k : BitVec 4) : (s.takeSeq k).tank = s.tank := rfl
@[simp] theorem State.takeSeq_accounts (k : BitVec 4) : (s.takeSeq k).accounts = s.accounts := rfl
@[simp] theorem State.takeSeq_sampler (k : BitVec 4) : (s.takeSeq k).sampler = s.sampler := rfl
@[simp] theorem State.takeSeq_monitor (k : BitVec 4) : (s.takeSeq k).monitor = s.monitor := rfl
@[simp] theorem State.takeSeq_alarms (k : BitVec 4) : (s.takeSeq k).alarms = s.alarms := rfl
@[simp] theorem State.takeSeq_mgmt (k : BitVec 4) : (s.takeSeq k).mgmt = s.mgmt := rfl
@[simp] theorem State.takeSeq_time (k : BitVec 4) : (s.takeSeq k).time = s.time := rfl
@[simp] theorem State.takeSeq_store (k : BitVec 4) : (s.takeSeq k).store = s.store := rfl

/-! ## countRun -/

@[simp] theorem State.countRun_pending (f : RunCounters → RunCounters) : (s.countRun f).pending = s.pending := rfl
@[simp] theorem State.countRun_powered (f : RunCounters → RunCounters) : (s.countRun f).powered = s.powered := rfl
@[simp] theorem State.countRun_free (f : RunCounters → RunCounters) : (s.countRun f).free = s.free := rfl
@[simp] theorem State.countRun_settings (f : RunCounters → RunCounters) : (s.countRun f).settings = s.settings := rfl
@[simp] theorem State.countRun_portA (f : RunCounters → RunCounters) : (s.countRun f).portA = s.portA := rfl
@[simp] theorem State.countRun_portB (f : RunCounters → RunCounters) : (s.countRun f).portB = s.portB := rfl
@[simp] theorem State.countRun_ownSeq (f : RunCounters → RunCounters) : (s.countRun f).ownSeq = s.ownSeq := rfl
@[simp] theorem State.countRun_table (f : RunCounters → RunCounters) : (s.countRun f).table = s.table := rfl
@[simp] theorem State.countRun_zones (f : RunCounters → RunCounters) : (s.countRun f).zones = s.zones := rfl
@[simp] theorem State.countRun_burner (f : RunCounters → RunCounters) : (s.countRun f).burner = s.burner := rfl
@[simp] theorem State.countRun_recovery (f : RunCounters → RunCounters) : (s.countRun f).recovery = s.recovery := rfl
@[simp] theorem State.countRun_tank (f : RunCounters → RunCounters) : (s.countRun f).tank = s.tank := rfl
@[simp] theorem State.countRun_accounts (f : RunCounters → RunCounters) : (s.countRun f).accounts = s.accounts := rfl
@[simp] theorem State.countRun_monitor (f : RunCounters → RunCounters) : (s.countRun f).monitor = s.monitor := rfl
@[simp] theorem State.countRun_alarms (f : RunCounters → RunCounters) : (s.countRun f).alarms = s.alarms := rfl
@[simp] theorem State.countRun_mgmt (f : RunCounters → RunCounters) : (s.countRun f).mgmt = s.mgmt := rfl
@[simp] theorem State.countRun_time (f : RunCounters → RunCounters) : (s.countRun f).time = s.time := rfl
@[simp] theorem State.countRun_store (f : RunCounters → RunCounters) : (s.countRun f).store = s.store := rfl

/-! ## countGauge -/

@[simp] theorem State.countGauge_pending (f : GaugeCounts → GaugeCounts) : (s.countGauge f).pending = s.pending := rfl
@[simp] theorem State.countGauge_powered (f : GaugeCounts → GaugeCounts) : (s.countGauge f).powered = s.powered := rfl
@[simp] theorem State.countGauge_free (f : GaugeCounts → GaugeCounts) : (s.countGauge f).free = s.free := rfl
@[simp] theorem State.countGauge_settings (f : GaugeCounts → GaugeCounts) : (s.countGauge f).settings = s.settings := rfl
@[simp] theorem State.countGauge_portA (f : GaugeCounts → GaugeCounts) : (s.countGauge f).portA = s.portA := rfl
@[simp] theorem State.countGauge_portB (f : GaugeCounts → GaugeCounts) : (s.countGauge f).portB = s.portB := rfl
@[simp] theorem State.countGauge_ownSeq (f : GaugeCounts → GaugeCounts) : (s.countGauge f).ownSeq = s.ownSeq := rfl
@[simp] theorem State.countGauge_table (f : GaugeCounts → GaugeCounts) : (s.countGauge f).table = s.table := rfl
@[simp] theorem State.countGauge_zones (f : GaugeCounts → GaugeCounts) : (s.countGauge f).zones = s.zones := rfl
@[simp] theorem State.countGauge_burner (f : GaugeCounts → GaugeCounts) : (s.countGauge f).burner = s.burner := rfl
@[simp] theorem State.countGauge_recovery (f : GaugeCounts → GaugeCounts) : (s.countGauge f).recovery = s.recovery := rfl
@[simp] theorem State.countGauge_accounts (f : GaugeCounts → GaugeCounts) : (s.countGauge f).accounts = s.accounts := rfl
@[simp] theorem State.countGauge_sampler (f : GaugeCounts → GaugeCounts) : (s.countGauge f).sampler = s.sampler := rfl
@[simp] theorem State.countGauge_monitor (f : GaugeCounts → GaugeCounts) : (s.countGauge f).monitor = s.monitor := rfl
@[simp] theorem State.countGauge_alarms (f : GaugeCounts → GaugeCounts) : (s.countGauge f).alarms = s.alarms := rfl
@[simp] theorem State.countGauge_mgmt (f : GaugeCounts → GaugeCounts) : (s.countGauge f).mgmt = s.mgmt := rfl
@[simp] theorem State.countGauge_time (f : GaugeCounts → GaugeCounts) : (s.countGauge f).time = s.time := rfl
@[simp] theorem State.countGauge_store (f : GaugeCounts → GaugeCounts) : (s.countGauge f).store = s.store := rfl

/-! ## setTank -/

@[simp] theorem State.setTank_pending (t : TankSettings) : (s.setTank t).pending = s.pending := rfl
@[simp] theorem State.setTank_powered (t : TankSettings) : (s.setTank t).powered = s.powered := rfl
@[simp] theorem State.setTank_free (t : TankSettings) : (s.setTank t).free = s.free := rfl
@[simp] theorem State.setTank_portA (t : TankSettings) : (s.setTank t).portA = s.portA := rfl
@[simp] theorem State.setTank_portB (t : TankSettings) : (s.setTank t).portB = s.portB := rfl
@[simp] theorem State.setTank_ownSeq (t : TankSettings) : (s.setTank t).ownSeq = s.ownSeq := rfl
@[simp] theorem State.setTank_table (t : TankSettings) : (s.setTank t).table = s.table := rfl
@[simp] theorem State.setTank_zones (t : TankSettings) : (s.setTank t).zones = s.zones := rfl
@[simp] theorem State.setTank_burner (t : TankSettings) : (s.setTank t).burner = s.burner := rfl
@[simp] theorem State.setTank_recovery (t : TankSettings) : (s.setTank t).recovery = s.recovery := rfl
@[simp] theorem State.setTank_tank (t : TankSettings) : (s.setTank t).tank = s.tank := rfl
@[simp] theorem State.setTank_accounts (t : TankSettings) : (s.setTank t).accounts = s.accounts := rfl
@[simp] theorem State.setTank_sampler (t : TankSettings) : (s.setTank t).sampler = s.sampler := rfl
@[simp] theorem State.setTank_monitor (t : TankSettings) : (s.setTank t).monitor = s.monitor := rfl
@[simp] theorem State.setTank_alarms (t : TankSettings) : (s.setTank t).alarms = s.alarms := rfl
@[simp] theorem State.setTank_mgmt (t : TankSettings) : (s.setTank t).mgmt = s.mgmt := rfl
@[simp] theorem State.setTank_time (t : TankSettings) : (s.setTank t).time = s.time := rfl
@[simp] theorem State.setTank_store (t : TankSettings) : (s.setTank t).store = s.store := rfl

/-! ## setCommon -/

@[simp] theorem State.setCommon_pending (c : CommonSettings) : (s.setCommon c).pending = s.pending := rfl
@[simp] theorem State.setCommon_powered (c : CommonSettings) : (s.setCommon c).powered = s.powered := rfl
@[simp] theorem State.setCommon_free (c : CommonSettings) : (s.setCommon c).free = s.free := rfl
@[simp] theorem State.setCommon_portA (c : CommonSettings) : (s.setCommon c).portA = s.portA := rfl
@[simp] theorem State.setCommon_portB (c : CommonSettings) : (s.setCommon c).portB = s.portB := rfl
@[simp] theorem State.setCommon_ownSeq (c : CommonSettings) : (s.setCommon c).ownSeq = s.ownSeq := rfl
@[simp] theorem State.setCommon_table (c : CommonSettings) : (s.setCommon c).table = s.table := rfl
@[simp] theorem State.setCommon_zones (c : CommonSettings) : (s.setCommon c).zones = s.zones := rfl
@[simp] theorem State.setCommon_burner (c : CommonSettings) : (s.setCommon c).burner = s.burner := rfl
@[simp] theorem State.setCommon_recovery (c : CommonSettings) : (s.setCommon c).recovery = s.recovery := rfl
@[simp] theorem State.setCommon_tank (c : CommonSettings) : (s.setCommon c).tank = s.tank := rfl
@[simp] theorem State.setCommon_accounts (c : CommonSettings) : (s.setCommon c).accounts = s.accounts := rfl
@[simp] theorem State.setCommon_sampler (c : CommonSettings) : (s.setCommon c).sampler = s.sampler := rfl
@[simp] theorem State.setCommon_monitor (c : CommonSettings) : (s.setCommon c).monitor = s.monitor := rfl
@[simp] theorem State.setCommon_alarms (c : CommonSettings) : (s.setCommon c).alarms = s.alarms := rfl
@[simp] theorem State.setCommon_mgmt (c : CommonSettings) : (s.setCommon c).mgmt = s.mgmt := rfl
@[simp] theorem State.setCommon_time (c : CommonSettings) : (s.setCommon c).time = s.time := rfl
@[simp] theorem State.setCommon_store (c : CommonSettings) : (s.setCommon c).store = s.store := rfl

/-! ## setAccountSettings -/

@[simp] theorem State.setAccountSettings_pending (a : AccountSettings) : (s.setAccountSettings a).pending = s.pending := rfl
@[simp] theorem State.setAccountSettings_powered (a : AccountSettings) : (s.setAccountSettings a).powered = s.powered := rfl
@[simp] theorem State.setAccountSettings_free (a : AccountSettings) : (s.setAccountSettings a).free = s.free := rfl
@[simp] theorem State.setAccountSettings_portA (a : AccountSettings) : (s.setAccountSettings a).portA = s.portA := rfl
@[simp] theorem State.setAccountSettings_portB (a : AccountSettings) : (s.setAccountSettings a).portB = s.portB := rfl
@[simp] theorem State.setAccountSettings_ownSeq (a : AccountSettings) : (s.setAccountSettings a).ownSeq = s.ownSeq := rfl
@[simp] theorem State.setAccountSettings_table (a : AccountSettings) : (s.setAccountSettings a).table = s.table := rfl
@[simp] theorem State.setAccountSettings_zones (a : AccountSettings) : (s.setAccountSettings a).zones = s.zones := rfl
@[simp] theorem State.setAccountSettings_burner (a : AccountSettings) : (s.setAccountSettings a).burner = s.burner := rfl
@[simp] theorem State.setAccountSettings_recovery (a : AccountSettings) : (s.setAccountSettings a).recovery = s.recovery := rfl
@[simp] theorem State.setAccountSettings_tank (a : AccountSettings) : (s.setAccountSettings a).tank = s.tank := rfl
@[simp] theorem State.setAccountSettings_accounts (a : AccountSettings) : (s.setAccountSettings a).accounts = s.accounts := rfl
@[simp] theorem State.setAccountSettings_sampler (a : AccountSettings) : (s.setAccountSettings a).sampler = s.sampler := rfl
@[simp] theorem State.setAccountSettings_monitor (a : AccountSettings) : (s.setAccountSettings a).monitor = s.monitor := rfl
@[simp] theorem State.setAccountSettings_alarms (a : AccountSettings) : (s.setAccountSettings a).alarms = s.alarms := rfl
@[simp] theorem State.setAccountSettings_mgmt (a : AccountSettings) : (s.setAccountSettings a).mgmt = s.mgmt := rfl
@[simp] theorem State.setAccountSettings_time (a : AccountSettings) : (s.setAccountSettings a).time = s.time := rfl
@[simp] theorem State.setAccountSettings_store (a : AccountSettings) : (s.setAccountSettings a).store = s.store := rfl

/-! ## setBurnerSettings -/

@[simp] theorem State.setBurnerSettings_pending (b : BurnerSettings) : (s.setBurnerSettings b).pending = s.pending := rfl
@[simp] theorem State.setBurnerSettings_powered (b : BurnerSettings) : (s.setBurnerSettings b).powered = s.powered := rfl
@[simp] theorem State.setBurnerSettings_free (b : BurnerSettings) : (s.setBurnerSettings b).free = s.free := rfl
@[simp] theorem State.setBurnerSettings_portA (b : BurnerSettings) : (s.setBurnerSettings b).portA = s.portA := rfl
@[simp] theorem State.setBurnerSettings_portB (b : BurnerSettings) : (s.setBurnerSettings b).portB = s.portB := rfl
@[simp] theorem State.setBurnerSettings_ownSeq (b : BurnerSettings) : (s.setBurnerSettings b).ownSeq = s.ownSeq := rfl
@[simp] theorem State.setBurnerSettings_table (b : BurnerSettings) : (s.setBurnerSettings b).table = s.table := rfl
@[simp] theorem State.setBurnerSettings_zones (b : BurnerSettings) : (s.setBurnerSettings b).zones = s.zones := rfl
@[simp] theorem State.setBurnerSettings_burner (b : BurnerSettings) : (s.setBurnerSettings b).burner = s.burner := rfl
@[simp] theorem State.setBurnerSettings_recovery (b : BurnerSettings) : (s.setBurnerSettings b).recovery = s.recovery := rfl
@[simp] theorem State.setBurnerSettings_tank (b : BurnerSettings) : (s.setBurnerSettings b).tank = s.tank := rfl
@[simp] theorem State.setBurnerSettings_accounts (b : BurnerSettings) : (s.setBurnerSettings b).accounts = s.accounts := rfl
@[simp] theorem State.setBurnerSettings_sampler (b : BurnerSettings) : (s.setBurnerSettings b).sampler = s.sampler := rfl
@[simp] theorem State.setBurnerSettings_monitor (b : BurnerSettings) : (s.setBurnerSettings b).monitor = s.monitor := rfl
@[simp] theorem State.setBurnerSettings_alarms (b : BurnerSettings) : (s.setBurnerSettings b).alarms = s.alarms := rfl
@[simp] theorem State.setBurnerSettings_mgmt (b : BurnerSettings) : (s.setBurnerSettings b).mgmt = s.mgmt := rfl
@[simp] theorem State.setBurnerSettings_time (b : BurnerSettings) : (s.setBurnerSettings b).time = s.time := rfl
@[simp] theorem State.setBurnerSettings_store (b : BurnerSettings) : (s.setBurnerSettings b).store = s.store := rfl

/-! ## setRecoverySettings -/

@[simp] theorem State.setRecoverySettings_pending (r : RecoverySettings) : (s.setRecoverySettings r).pending = s.pending := rfl
@[simp] theorem State.setRecoverySettings_powered (r : RecoverySettings) : (s.setRecoverySettings r).powered = s.powered := rfl
@[simp] theorem State.setRecoverySettings_free (r : RecoverySettings) : (s.setRecoverySettings r).free = s.free := rfl
@[simp] theorem State.setRecoverySettings_portA (r : RecoverySettings) : (s.setRecoverySettings r).portA = s.portA := rfl
@[simp] theorem State.setRecoverySettings_portB (r : RecoverySettings) : (s.setRecoverySettings r).portB = s.portB := rfl
@[simp] theorem State.setRecoverySettings_ownSeq (r : RecoverySettings) : (s.setRecoverySettings r).ownSeq = s.ownSeq := rfl
@[simp] theorem State.setRecoverySettings_table (r : RecoverySettings) : (s.setRecoverySettings r).table = s.table := rfl
@[simp] theorem State.setRecoverySettings_zones (r : RecoverySettings) : (s.setRecoverySettings r).zones = s.zones := rfl
@[simp] theorem State.setRecoverySettings_burner (r : RecoverySettings) : (s.setRecoverySettings r).burner = s.burner := rfl
@[simp] theorem State.setRecoverySettings_recovery (r : RecoverySettings) : (s.setRecoverySettings r).recovery = s.recovery := rfl
@[simp] theorem State.setRecoverySettings_tank (r : RecoverySettings) : (s.setRecoverySettings r).tank = s.tank := rfl
@[simp] theorem State.setRecoverySettings_accounts (r : RecoverySettings) : (s.setRecoverySettings r).accounts = s.accounts := rfl
@[simp] theorem State.setRecoverySettings_sampler (r : RecoverySettings) : (s.setRecoverySettings r).sampler = s.sampler := rfl
@[simp] theorem State.setRecoverySettings_monitor (r : RecoverySettings) : (s.setRecoverySettings r).monitor = s.monitor := rfl
@[simp] theorem State.setRecoverySettings_alarms (r : RecoverySettings) : (s.setRecoverySettings r).alarms = s.alarms := rfl
@[simp] theorem State.setRecoverySettings_mgmt (r : RecoverySettings) : (s.setRecoverySettings r).mgmt = s.mgmt := rfl
@[simp] theorem State.setRecoverySettings_time (r : RecoverySettings) : (s.setRecoverySettings r).time = s.time := rfl
@[simp] theorem State.setRecoverySettings_store (r : RecoverySettings) : (s.setRecoverySettings r).store = s.store := rfl

/-! ## setPort -/

@[simp] theorem State.setPort_pending (seg : Segment) (p : Port) : (s.setPort seg p).pending = s.pending := by cases seg <;> rfl
@[simp] theorem State.setPort_powered (seg : Segment) (p : Port) : (s.setPort seg p).powered = s.powered := by cases seg <;> rfl
@[simp] theorem State.setPort_free (seg : Segment) (p : Port) : (s.setPort seg p).free = s.free := by cases seg <;> rfl
@[simp] theorem State.setPort_settings (seg : Segment) (p : Port) : (s.setPort seg p).settings = s.settings := by cases seg <;> rfl
@[simp] theorem State.setPort_ownSeq (seg : Segment) (p : Port) : (s.setPort seg p).ownSeq = s.ownSeq := by cases seg <;> rfl
@[simp] theorem State.setPort_table (seg : Segment) (p : Port) : (s.setPort seg p).table = s.table := by cases seg <;> rfl
@[simp] theorem State.setPort_zones (seg : Segment) (p : Port) : (s.setPort seg p).zones = s.zones := by cases seg <;> rfl
@[simp] theorem State.setPort_burner (seg : Segment) (p : Port) : (s.setPort seg p).burner = s.burner := by cases seg <;> rfl
@[simp] theorem State.setPort_recovery (seg : Segment) (p : Port) : (s.setPort seg p).recovery = s.recovery := by cases seg <;> rfl
@[simp] theorem State.setPort_tank (seg : Segment) (p : Port) : (s.setPort seg p).tank = s.tank := by cases seg <;> rfl
@[simp] theorem State.setPort_accounts (seg : Segment) (p : Port) : (s.setPort seg p).accounts = s.accounts := by cases seg <;> rfl
@[simp] theorem State.setPort_sampler (seg : Segment) (p : Port) : (s.setPort seg p).sampler = s.sampler := by cases seg <;> rfl
@[simp] theorem State.setPort_monitor (seg : Segment) (p : Port) : (s.setPort seg p).monitor = s.monitor := by cases seg <;> rfl
@[simp] theorem State.setPort_alarms (seg : Segment) (p : Port) : (s.setPort seg p).alarms = s.alarms := by cases seg <;> rfl
@[simp] theorem State.setPort_mgmt (seg : Segment) (p : Port) : (s.setPort seg p).mgmt = s.mgmt := by cases seg <;> rfl
@[simp] theorem State.setPort_time (seg : Segment) (p : Port) : (s.setPort seg p).time = s.time := by cases seg <;> rfl
@[simp] theorem State.setPort_store (seg : Segment) (p : Port) : (s.setPort seg p).store = s.store := by cases seg <;> rfl

/-! ## setOccupancy -/

@[simp] theorem State.setOccupancy_pending (seg : Segment) (o : Occupancy) : (s.setOccupancy seg o).pending = s.pending := by cases seg <;> rfl
@[simp] theorem State.setOccupancy_powered (seg : Segment) (o : Occupancy) : (s.setOccupancy seg o).powered = s.powered := by cases seg <;> rfl
@[simp] theorem State.setOccupancy_free (seg : Segment) (o : Occupancy) : (s.setOccupancy seg o).free = s.free := by cases seg <;> rfl
@[simp] theorem State.setOccupancy_settings (seg : Segment) (o : Occupancy) : (s.setOccupancy seg o).settings = s.settings := by cases seg <;> rfl
@[simp] theorem State.setOccupancy_ownSeq (seg : Segment) (o : Occupancy) : (s.setOccupancy seg o).ownSeq = s.ownSeq := by cases seg <;> rfl
@[simp] theorem State.setOccupancy_table (seg : Segment) (o : Occupancy) : (s.setOccupancy seg o).table = s.table := by cases seg <;> rfl
@[simp] theorem State.setOccupancy_zones (seg : Segment) (o : Occupancy) : (s.setOccupancy seg o).zones = s.zones := by cases seg <;> rfl
@[simp] theorem State.setOccupancy_burner (seg : Segment) (o : Occupancy) : (s.setOccupancy seg o).burner = s.burner := by cases seg <;> rfl
@[simp] theorem State.setOccupancy_recovery (seg : Segment) (o : Occupancy) : (s.setOccupancy seg o).recovery = s.recovery := by cases seg <;> rfl
@[simp] theorem State.setOccupancy_tank (seg : Segment) (o : Occupancy) : (s.setOccupancy seg o).tank = s.tank := by cases seg <;> rfl
@[simp] theorem State.setOccupancy_accounts (seg : Segment) (o : Occupancy) : (s.setOccupancy seg o).accounts = s.accounts := by cases seg <;> rfl
@[simp] theorem State.setOccupancy_sampler (seg : Segment) (o : Occupancy) : (s.setOccupancy seg o).sampler = s.sampler := by cases seg <;> rfl
@[simp] theorem State.setOccupancy_monitor (seg : Segment) (o : Occupancy) : (s.setOccupancy seg o).monitor = s.monitor := by cases seg <;> rfl
@[simp] theorem State.setOccupancy_alarms (seg : Segment) (o : Occupancy) : (s.setOccupancy seg o).alarms = s.alarms := by cases seg <;> rfl
@[simp] theorem State.setOccupancy_mgmt (seg : Segment) (o : Occupancy) : (s.setOccupancy seg o).mgmt = s.mgmt := by cases seg <;> rfl
@[simp] theorem State.setOccupancy_time (seg : Segment) (o : Occupancy) : (s.setOccupancy seg o).time = s.time := by cases seg <;> rfl
@[simp] theorem State.setOccupancy_store (seg : Segment) (o : Occupancy) : (s.setOccupancy seg o).store = s.store := by cases seg <;> rfl

/-! ## countLine -/

@[simp] theorem State.countLine_pending (seg : Segment) (f : LineCounts → LineCounts) : (s.countLine seg f).pending = s.pending := by cases seg <;> rfl
@[simp] theorem State.countLine_powered (seg : Segment) (f : LineCounts → LineCounts) : (s.countLine seg f).powered = s.powered := by cases seg <;> rfl
@[simp] theorem State.countLine_free (seg : Segment) (f : LineCounts → LineCounts) : (s.countLine seg f).free = s.free := by cases seg <;> rfl
@[simp] theorem State.countLine_settings (seg : Segment) (f : LineCounts → LineCounts) : (s.countLine seg f).settings = s.settings := by cases seg <;> rfl
@[simp] theorem State.countLine_ownSeq (seg : Segment) (f : LineCounts → LineCounts) : (s.countLine seg f).ownSeq = s.ownSeq := by cases seg <;> rfl
@[simp] theorem State.countLine_table (seg : Segment) (f : LineCounts → LineCounts) : (s.countLine seg f).table = s.table := by cases seg <;> rfl
@[simp] theorem State.countLine_zones (seg : Segment) (f : LineCounts → LineCounts) : (s.countLine seg f).zones = s.zones := by cases seg <;> rfl
@[simp] theorem State.countLine_burner (seg : Segment) (f : LineCounts → LineCounts) : (s.countLine seg f).burner = s.burner := by cases seg <;> rfl
@[simp] theorem State.countLine_recovery (seg : Segment) (f : LineCounts → LineCounts) : (s.countLine seg f).recovery = s.recovery := by cases seg <;> rfl
@[simp] theorem State.countLine_tank (seg : Segment) (f : LineCounts → LineCounts) : (s.countLine seg f).tank = s.tank := by cases seg <;> rfl
@[simp] theorem State.countLine_accounts (seg : Segment) (f : LineCounts → LineCounts) : (s.countLine seg f).accounts = s.accounts := by cases seg <;> rfl
@[simp] theorem State.countLine_sampler (seg : Segment) (f : LineCounts → LineCounts) : (s.countLine seg f).sampler = s.sampler := by cases seg <;> rfl
@[simp] theorem State.countLine_monitor (seg : Segment) (f : LineCounts → LineCounts) : (s.countLine seg f).monitor = s.monitor := by cases seg <;> rfl
@[simp] theorem State.countLine_alarms (seg : Segment) (f : LineCounts → LineCounts) : (s.countLine seg f).alarms = s.alarms := by cases seg <;> rfl
@[simp] theorem State.countLine_mgmt (seg : Segment) (f : LineCounts → LineCounts) : (s.countLine seg f).mgmt = s.mgmt := by cases seg <;> rfl
@[simp] theorem State.countLine_time (seg : Segment) (f : LineCounts → LineCounts) : (s.countLine seg f).time = s.time := by cases seg <;> rfl
@[simp] theorem State.countLine_store (seg : Segment) (f : LineCounts → LineCounts) : (s.countLine seg f).store = s.store := by cases seg <;> rfl

/-! ## Tables -/

@[simp] theorem upd_same {α : Type} {n : Nat} (v : Vector α n) (i : Fin n) (x : α) : (upd v i x)[i] = x := by
  simp [upd]

theorem upd_other {α : Type} {n : Nat} (v : Vector α n) {i j : Fin n} (x : α) (h : j ≠ i) : (upd v i x)[j] = v[j] := by
  have : i.val ≠ j.val := fun e => h (Fin.ext e.symm)
  simp [upd, Vector.getElem_set, this]

@[simp] theorem mapAll_get {α β : Type} {n : Nat} (f : Fin n → α → β) (v : Vector α n) (i : Fin n) :
    (mapAll f v)[i] = f i v[i] := by
  simp [mapAll]

/-- A table updated at a place, read at any place. -/
theorem upd_get {α : Type} {n : Nat} (v : Vector α n) (i j : Fin n) (x : α) :
    (upd v i x)[j] = if j = i then x else v[j] := by
  split
  · next h => subst h; exact upd_same v j x
  · next h => exact upd_other v x h

/-! ## Reading back -/

@[simp] theorem State.station_setStation_same (a : Addr) (e : Station) : (s.setStation a e).station a = e :=
  upd_same _ a e

theorem State.station_setStation_other {a b : Addr} (e : Station) (h : b ≠ a) :
    (s.setStation a e).station b = s.station b := upd_other _ e h

@[simp] theorem State.zone_setZone_same (z : ZoneId) (r : Zone) : (s.setZone z r).zone z = r := upd_same _ z r

theorem State.zone_setZone_other {z y : ZoneId} (r : Zone) (h : y ≠ z) : (s.setZone z r).zone y = s.zone y :=
  upd_other _ r h

@[simp] theorem State.valve_setValve_same (o : OutputId) (v : Valve) : (s.setValve o v).valve o = v := upd_same _ o v

theorem State.valve_setValve_other {o p : OutputId} (v : Valve) (h : p ≠ o) :
    (s.setValve o v).valve p = s.valve p := upd_other _ v h

@[simp] theorem State.unitRecord_setUnit_same (a : Addr) (u : Option UnitRecord) :
    (s.setUnit a u).unitRecord a = u := upd_same _ a u

theorem State.unitRecord_setUnit_other {a b : Addr} (u : Option UnitRecord) (h : b ≠ a) :
    (s.setUnit a u).unitRecord b = s.unitRecord b := upd_other _ u h

@[simp] theorem State.zoneCfg_setZoneCfg_same (z : ZoneId) (c : ZoneSettings) : (s.setZoneCfg z c).zoneCfg z = c :=
  upd_same _ z c

theorem State.zoneCfg_setZoneCfg_other {z y : ZoneId} (c : ZoneSettings) (h : y ≠ z) :
    (s.setZoneCfg z c).zoneCfg y = s.zoneCfg y := upd_other _ c h

@[simp] theorem State.relay_setRelay_same (r : Relay) (x : RelayState) : (s.setRelay r x).relay r = x := by
  cases r <;> rfl

theorem State.relay_setRelay_other {r q : Relay} (x : RelayState) (h : q ≠ r) :
    (s.setRelay r x).relay q = s.relay q := by
  cases r <;> cases q <;> first | rfl | exact absurd rfl h

@[simp] theorem State.port_setPort_same (seg : Segment) (p : Port) : (s.setPort seg p).port seg = p := by
  cases seg <;> rfl

@[simp] theorem State.port_setPort_other (seg : Segment) (p : Port) :
    (s.setPort seg p).port (otherSegment seg) = s.port (otherSegment seg) := by
  cases seg <;> rfl

@[simp] theorem State.setOccupancy_occupancy (seg : Segment) (o : Occupancy) :
    ((s.setOccupancy seg o).port seg).occupancy = o := by
  cases seg <;> rfl

@[simp] theorem State.setOccupancy_queue (seg g : Segment) (o : Occupancy) :
    ((s.setOccupancy seg o).port g).queue = (s.port g).queue := by
  cases seg <;> cases g <;> rfl

@[simp] theorem State.countLine_queue (seg g : Segment) (f : LineCounts → LineCounts) :
    ((s.countLine seg f).port g).queue = (s.port g).queue := by
  cases seg <;> cases g <;> rfl

@[simp] theorem otherSegment_twice (seg : Segment) : otherSegment (otherSegment seg) = seg := by cases seg <;> rfl

/-! ## Places that another update leaves as they stand -/

@[simp] theorem State.zone_setStation (a : Addr) (e : Station) (z : ZoneId) :
    (s.setStation a e).zone z = s.zone z := rfl

@[simp] theorem State.valve_setZone (z : ZoneId) (r : Zone) (o : OutputId) : (s.setZone z r).valve o = s.valve o := rfl

@[simp] theorem State.unitRecord_setZone (z : ZoneId) (r : Zone) (a : Addr) :
    (s.setZone z r).unitRecord a = s.unitRecord a := rfl

@[simp] theorem State.zone_setValve (o : OutputId) (v : Valve) (z : ZoneId) : (s.setValve o v).zone z = s.zone z := rfl

@[simp] theorem State.zone_setUnit (a : Addr) (u : Option UnitRecord) (z : ZoneId) :
    (s.setUnit a u).zone z = s.zone z := rfl

@[simp] theorem State.valve_setUnit (a : Addr) (u : Option UnitRecord) (o : OutputId) :
    (s.setUnit a u).valve o = s.valve o := rfl

@[simp] theorem State.setZone_floor (z : ZoneId) (r : Zone) : (s.setZone z r).zones.floor = s.zones.floor := rfl

@[simp] theorem State.setZones_floor (v : Vector Zone 12) : (s.setZones v).zones.floor = s.zones.floor := rfl

@[simp] theorem State.setValve_floor (o : OutputId) (v : Valve) : (s.setValve o v).zones.floor = s.zones.floor := rfl

@[simp] theorem State.setUnit_floor (a : Addr) (u : Option UnitRecord) :
    (s.setUnit a u).zones.floor = s.zones.floor := rfl

end Sys2Proof.Machine
end

