-- ==== Sys2Proof/Laws/FramesAlarms.lean ====
section
/-! SUPPORT. What each shared operation of the alarm unit, the relay drives, the pump and the start sampler leaves as it stands: everything but
what the lemma does not name. -/

namespace Sys2Proof.Machine

variable (s : State)

@[simp] theorem raise_frame (k : AlarmKind) (d : BitVec 24) :
    (raise k d s).pending = s.pending ∧ (raise k d s).powered = s.powered ∧ (raise k d s).free = s.free ∧
    (raise k d s).settings = s.settings ∧ (raise k d s).portA = s.portA ∧ (raise k d s).portB = s.portB ∧
    (raise k d s).ownSeq = s.ownSeq ∧ (raise k d s).table = s.table ∧ (raise k d s).zones = s.zones ∧
    (raise k d s).burner = s.burner ∧ (raise k d s).recovery = s.recovery ∧ (raise k d s).tank = s.tank ∧
    (raise k d s).accounts = s.accounts ∧ (raise k d s).sampler = s.sampler ∧ (raise k d s).monitor = s.monitor ∧
    (raise k d s).alarms.sendTimes = s.alarms.sendTimes ∧ (raise k d s).mgmt = s.mgmt ∧
    (raise k d s).time = s.time ∧ (raise k d s).store = s.store := by
  simp only [raise]; (repeat' split) <;> simp

@[simp] theorem buildStatus_frame :
    (buildStatus s).pending = s.pending ∧ (buildStatus s).powered = s.powered ∧ (buildStatus s).free = s.free ∧
    (buildStatus s).settings = s.settings ∧ (buildStatus s).portA.queue = s.portA.queue ∧
    (buildStatus s).portA.counts = s.portA.counts ∧ (buildStatus s).portA.reply = s.portA.reply ∧
    (buildStatus s).portA.alarm = s.portA.alarm ∧ (buildStatus s).portA.occupancy = s.portA.occupancy ∧
    (buildStatus s).portB.queue = s.portB.queue ∧ (buildStatus s).portB.counts = s.portB.counts ∧
    (buildStatus s).portB.reply = s.portB.reply ∧ (buildStatus s).portB.alarm = s.portB.alarm ∧
    (buildStatus s).portB.occupancy = s.portB.occupancy ∧ (buildStatus s).table.entries = s.table.entries ∧
    (buildStatus s).table.inFlight = s.table.inFlight ∧ (buildStatus s).table.forced = s.table.forced ∧
    (buildStatus s).table.pointer = s.table.pointer ∧ (buildStatus s).table.moves = s.table.moves ∧
    (buildStatus s).table.conflicts = s.table.conflicts ∧ (buildStatus s).table.ownHeard = s.table.ownHeard ∧
    (buildStatus s).zones = s.zones ∧ (buildStatus s).burner = s.burner ∧ (buildStatus s).recovery = s.recovery ∧
    (buildStatus s).tank = s.tank ∧ (buildStatus s).accounts = s.accounts ∧ (buildStatus s).sampler = s.sampler ∧
    (buildStatus s).monitor = s.monitor ∧ (buildStatus s).alarms.waiting = s.alarms.waiting ∧
    (buildStatus s).alarms.sendTimes = s.alarms.sendTimes ∧ (buildStatus s).mgmt = s.mgmt ∧
    (buildStatus s).time = s.time ∧ (buildStatus s).store = s.store := by
  simp only [buildStatus, State.takeSeq]; (repeat' split) <;> simp

@[simp] theorem reportStatus_frame :
    (reportStatus s).pending = s.pending ∧ (reportStatus s).powered = s.powered ∧ (reportStatus s).free = s.free ∧
    (reportStatus s).settings = s.settings ∧ (reportStatus s).portA.queue = s.portA.queue ∧
    (reportStatus s).portA.counts = s.portA.counts ∧ (reportStatus s).portA.reply = s.portA.reply ∧
    (reportStatus s).portA.alarm = s.portA.alarm ∧ (reportStatus s).portA.occupancy = s.portA.occupancy ∧
    (reportStatus s).portB.queue = s.portB.queue ∧ (reportStatus s).portB.counts = s.portB.counts ∧
    (reportStatus s).portB.reply = s.portB.reply ∧ (reportStatus s).portB.alarm = s.portB.alarm ∧
    (reportStatus s).portB.occupancy = s.portB.occupancy ∧ (reportStatus s).table.entries = s.table.entries ∧
    (reportStatus s).table.inFlight = s.table.inFlight ∧ (reportStatus s).table.forced = s.table.forced ∧
    (reportStatus s).table.pointer = s.table.pointer ∧ (reportStatus s).table.moves = s.table.moves ∧
    (reportStatus s).table.conflicts = s.table.conflicts ∧ (reportStatus s).table.ownHeard = s.table.ownHeard ∧
    (reportStatus s).zones = s.zones ∧ (reportStatus s).burner = s.burner ∧
    (reportStatus s).recovery = s.recovery ∧ (reportStatus s).tank = s.tank ∧
    (reportStatus s).accounts = s.accounts ∧ (reportStatus s).sampler = s.sampler ∧
    (reportStatus s).monitor = s.monitor ∧ (reportStatus s).alarms.waiting = s.alarms.waiting ∧
    (reportStatus s).alarms.sendTimes = s.alarms.sendTimes ∧ (reportStatus s).mgmt = s.mgmt ∧
    (reportStatus s).time = s.time ∧ (reportStatus s).store = s.store := by
  simp only [reportStatus]; (repeat' split) <;> simp

@[simp] theorem followDrive_frame (r : Relay) :
    (followDrive r s).pending = s.pending ∧ (followDrive r s).powered = s.powered ∧
    (followDrive r s).free = s.free ∧ (followDrive r s).settings = s.settings ∧ (followDrive r s).portA = s.portA ∧
    (followDrive r s).portB = s.portB ∧ (followDrive r s).ownSeq = s.ownSeq ∧ (followDrive r s).table = s.table ∧
    (followDrive r s).zones = s.zones ∧ (followDrive r s).burner = s.burner ∧
    (followDrive r s).recovery = s.recovery ∧ (followDrive r s).tank = s.tank ∧
    (followDrive r s).accounts = s.accounts ∧ (followDrive r s).sampler = s.sampler ∧
    (followDrive r s).alarms = s.alarms ∧ (followDrive r s).mgmt = s.mgmt ∧ (followDrive r s).time = s.time ∧
    (followDrive r s).store = s.store := by
  simp only [followDrive]; (repeat' split) <;> simp

@[simp] theorem setCommand_frame (r : Relay) (c : Bool) :
    (setCommand r c s).pending = s.pending ∧ (setCommand r c s).powered = s.powered ∧
    (setCommand r c s).free = s.free ∧ (setCommand r c s).settings = s.settings ∧
    (setCommand r c s).portA = s.portA ∧ (setCommand r c s).portB = s.portB ∧
    (setCommand r c s).ownSeq = s.ownSeq ∧ (setCommand r c s).table = s.table ∧
    (setCommand r c s).zones = s.zones ∧ (setCommand r c s).burner = s.burner ∧
    (setCommand r c s).recovery = s.recovery ∧ (setCommand r c s).tank = s.tank ∧
    (setCommand r c s).accounts = s.accounts ∧ (setCommand r c s).sampler = s.sampler ∧
    (setCommand r c s).alarms = s.alarms ∧ (setCommand r c s).mgmt = s.mgmt ∧ (setCommand r c s).time = s.time ∧
    (setCommand r c s).store = s.store := by
  simp only [setCommand]; (repeat' split) <;> simp

@[simp] theorem recomputePump_frame :
    (recomputePump s).pending = s.pending ∧ (recomputePump s).powered = s.powered ∧
    (recomputePump s).free = s.free ∧ (recomputePump s).settings = s.settings ∧ (recomputePump s).portA = s.portA ∧
    (recomputePump s).portB = s.portB ∧ (recomputePump s).ownSeq = s.ownSeq ∧ (recomputePump s).table = s.table ∧
    (recomputePump s).zones = s.zones ∧ (recomputePump s).burner = s.burner ∧
    (recomputePump s).recovery = s.recovery ∧ (recomputePump s).tank = s.tank ∧
    (recomputePump s).accounts = s.accounts ∧ (recomputePump s).sampler = s.sampler ∧
    (recomputePump s).monitor.burner = s.monitor.burner ∧ (recomputePump s).monitor.reset = s.monitor.reset ∧
    (recomputePump s).monitor.preheat = s.monitor.preheat ∧ (recomputePump s).alarms = s.alarms ∧
    (recomputePump s).mgmt = s.mgmt ∧ (recomputePump s).time = s.time ∧ (recomputePump s).store = s.store := by
  simp only [recomputePump, setCommand, followDrive]; (repeat' split) <;> simp [State.setRelay]

@[simp] theorem pumpTold_frame (old new : BurnerState) :
    (pumpTold old new s).pending = s.pending ∧ (pumpTold old new s).powered = s.powered ∧
    (pumpTold old new s).free = s.free ∧ (pumpTold old new s).settings = s.settings ∧
    (pumpTold old new s).portA = s.portA ∧ (pumpTold old new s).portB = s.portB ∧
    (pumpTold old new s).ownSeq = s.ownSeq ∧ (pumpTold old new s).table = s.table ∧
    (pumpTold old new s).zones.zones = s.zones.zones ∧ (pumpTold old new s).zones.units = s.zones.units ∧
    (pumpTold old new s).zones.valves = s.zones.valves ∧ (pumpTold old new s).zones.floor = s.zones.floor ∧
    (pumpTold old new s).zones.demand = s.zones.demand ∧ (pumpTold old new s).burner = s.burner ∧
    (pumpTold old new s).recovery = s.recovery ∧ (pumpTold old new s).tank = s.tank ∧
    (pumpTold old new s).accounts = s.accounts ∧ (pumpTold old new s).sampler = s.sampler ∧
    (pumpTold old new s).monitor.burner = s.monitor.burner ∧ (pumpTold old new s).monitor.reset = s.monitor.reset ∧
    (pumpTold old new s).monitor.preheat = s.monitor.preheat ∧ (pumpTold old new s).alarms = s.alarms ∧
    (pumpTold old new s).mgmt = s.mgmt ∧ (pumpTold old new s).time = s.time ∧ (pumpTold old new s).store = s.store := by
  simp only [pumpTold]; (repeat' split) <;> simp

@[simp] theorem firingBegins_frame :
    (firingBegins s).pending = s.pending ∧ (firingBegins s).powered = s.powered ∧ (firingBegins s).free = s.free ∧
    (firingBegins s).settings = s.settings ∧ (firingBegins s).portA = s.portA ∧ (firingBegins s).portB = s.portB ∧
    (firingBegins s).ownSeq = s.ownSeq ∧ (firingBegins s).table = s.table ∧ (firingBegins s).zones = s.zones ∧
    (firingBegins s).burner = s.burner ∧ (firingBegins s).recovery.state = s.recovery.state ∧
    (firingBegins s).recovery.records = s.recovery.records ∧
    (firingBegins s).recovery.resetTimes = s.recovery.resetTimes ∧
    (firingBegins s).recovery.hardLatch = s.recovery.hardLatch ∧
    (firingBegins s).recovery.lockout = s.recovery.lockout ∧
    (firingBegins s).recovery.suspend = s.recovery.suspend ∧ (firingBegins s).tank = s.tank ∧
    (firingBegins s).accounts = s.accounts ∧ (firingBegins s).sampler = s.sampler ∧
    (firingBegins s).monitor = s.monitor ∧ (firingBegins s).alarms = s.alarms ∧ (firingBegins s).mgmt = s.mgmt ∧
    (firingBegins s).time = s.time ∧ (firingBegins s).store = s.store := by
  simp only [firingBegins]; (repeat' split) <;> simp

@[simp] theorem firingEnds_frame :
    (firingEnds s).pending = s.pending ∧ (firingEnds s).powered = s.powered ∧ (firingEnds s).free = s.free ∧
    (firingEnds s).settings = s.settings ∧ (firingEnds s).portA = s.portA ∧ (firingEnds s).portB = s.portB ∧
    (firingEnds s).ownSeq = s.ownSeq ∧ (firingEnds s).table = s.table ∧ (firingEnds s).zones = s.zones ∧
    (firingEnds s).burner = s.burner ∧ (firingEnds s).recovery.state = s.recovery.state ∧
    (firingEnds s).recovery.records = s.recovery.records ∧
    (firingEnds s).recovery.resetTimes = s.recovery.resetTimes ∧
    (firingEnds s).recovery.hardLatch = s.recovery.hardLatch ∧
    (firingEnds s).recovery.lockout = s.recovery.lockout ∧ (firingEnds s).recovery.suspend = s.recovery.suspend ∧
    (firingEnds s).tank = s.tank ∧ (firingEnds s).accounts = s.accounts ∧ (firingEnds s).sampler = s.sampler ∧
    (firingEnds s).monitor = s.monitor ∧ (firingEnds s).alarms = s.alarms ∧ (firingEnds s).mgmt = s.mgmt ∧
    (firingEnds s).time = s.time ∧ (firingEnds s).store = s.store := by
  simp only [firingEnds]; (repeat' split) <;> simp

@[simp] theorem reportFiring_frame (old new : BurnerState) :
    (reportFiring old new s).pending = s.pending ∧ (reportFiring old new s).powered = s.powered ∧
    (reportFiring old new s).free = s.free ∧ (reportFiring old new s).settings = s.settings ∧
    (reportFiring old new s).portA = s.portA ∧ (reportFiring old new s).portB = s.portB ∧
    (reportFiring old new s).ownSeq = s.ownSeq ∧ (reportFiring old new s).table = s.table ∧
    (reportFiring old new s).zones = s.zones ∧ (reportFiring old new s).burner = s.burner ∧
    (reportFiring old new s).recovery.state = s.recovery.state ∧
    (reportFiring old new s).recovery.records = s.recovery.records ∧
    (reportFiring old new s).recovery.resetTimes = s.recovery.resetTimes ∧
    (reportFiring old new s).recovery.hardLatch = s.recovery.hardLatch ∧
    (reportFiring old new s).recovery.lockout = s.recovery.lockout ∧
    (reportFiring old new s).recovery.suspend = s.recovery.suspend ∧ (reportFiring old new s).tank = s.tank ∧
    (reportFiring old new s).accounts = s.accounts ∧ (reportFiring old new s).sampler = s.sampler ∧
    (reportFiring old new s).monitor = s.monitor ∧ (reportFiring old new s).alarms = s.alarms ∧
    (reportFiring old new s).mgmt = s.mgmt ∧ (reportFiring old new s).time = s.time ∧
    (reportFiring old new s).store = s.store := by
  simp only [reportFiring]; (repeat' split) <;> simp

@[simp] theorem commandRelays_frame :
    (commandRelays s).pending = s.pending ∧ (commandRelays s).powered = s.powered ∧
    (commandRelays s).free = s.free ∧ (commandRelays s).settings = s.settings ∧ (commandRelays s).portA = s.portA ∧
    (commandRelays s).portB = s.portB ∧ (commandRelays s).ownSeq = s.ownSeq ∧ (commandRelays s).table = s.table ∧
    (commandRelays s).zones = s.zones ∧ (commandRelays s).burner = s.burner ∧
    (commandRelays s).recovery = s.recovery ∧ (commandRelays s).tank = s.tank ∧
    (commandRelays s).accounts = s.accounts ∧ (commandRelays s).sampler = s.sampler ∧
    (commandRelays s).monitor.reset = s.monitor.reset ∧ (commandRelays s).monitor.pump = s.monitor.pump ∧
    (commandRelays s).alarms = s.alarms ∧ (commandRelays s).mgmt = s.mgmt ∧ (commandRelays s).time = s.time ∧
    (commandRelays s).store = s.store := by
  simp only [commandRelays, setCommand, followDrive]; (repeat' split) <;> simp [State.setRelay]

@[simp] theorem enterBurner_frame (new : BurnerState) :
    (enterBurner new s).pending = s.pending ∧ (enterBurner new s).powered = s.powered ∧
    (enterBurner new s).free = s.free ∧ (enterBurner new s).settings = s.settings ∧
    (enterBurner new s).portA.queue = s.portA.queue ∧ (enterBurner new s).portA.counts = s.portA.counts ∧
    (enterBurner new s).portA.reply = s.portA.reply ∧ (enterBurner new s).portA.alarm = s.portA.alarm ∧
    (enterBurner new s).portA.occupancy = s.portA.occupancy ∧ (enterBurner new s).portB.queue = s.portB.queue ∧
    (enterBurner new s).portB.counts = s.portB.counts ∧ (enterBurner new s).portB.reply = s.portB.reply ∧
    (enterBurner new s).portB.alarm = s.portB.alarm ∧ (enterBurner new s).portB.occupancy = s.portB.occupancy ∧
    (enterBurner new s).table.entries = s.table.entries ∧ (enterBurner new s).table.inFlight = s.table.inFlight ∧
    (enterBurner new s).table.forced = s.table.forced ∧ (enterBurner new s).table.pointer = s.table.pointer ∧
    (enterBurner new s).table.moves = s.table.moves ∧ (enterBurner new s).table.conflicts = s.table.conflicts ∧
    (enterBurner new s).table.ownHeard = s.table.ownHeard ∧ (enterBurner new s).zones.zones = s.zones.zones ∧
    (enterBurner new s).zones.units = s.zones.units ∧ (enterBurner new s).zones.valves = s.zones.valves ∧
    (enterBurner new s).zones.floor = s.zones.floor ∧ (enterBurner new s).zones.demand = s.zones.demand ∧
    (enterBurner new s).burner.demand = s.burner.demand ∧ (enterBurner new s).burner.run = s.burner.run ∧
    (enterBurner new s).burner.startTimes = s.burner.startTimes ∧
    (enterBurner new s).recovery.state = s.recovery.state ∧
    (enterBurner new s).recovery.records = s.recovery.records ∧
    (enterBurner new s).recovery.resetTimes = s.recovery.resetTimes ∧
    (enterBurner new s).recovery.hardLatch = s.recovery.hardLatch ∧
    (enterBurner new s).recovery.lockout = s.recovery.lockout ∧
    (enterBurner new s).recovery.suspend = s.recovery.suspend ∧ (enterBurner new s).tank = s.tank ∧
    (enterBurner new s).accounts = s.accounts ∧ (enterBurner new s).sampler = s.sampler ∧
    (enterBurner new s).monitor.reset = s.monitor.reset ∧ (enterBurner new s).alarms.waiting = s.alarms.waiting ∧
    (enterBurner new s).alarms.sendTimes = s.alarms.sendTimes ∧ (enterBurner new s).mgmt = s.mgmt ∧
    (enterBurner new s).time = s.time ∧ (enterBurner new s).store = s.store := by
  simp only [enterBurner]; (repeat' split) <;> simp

@[simp] theorem fillSample_frame (f : SampleRecord → SampleRecord) :
    (fillSample f s).pending = s.pending ∧ (fillSample f s).powered = s.powered ∧ (fillSample f s).free = s.free ∧
    (fillSample f s).settings = s.settings ∧ (fillSample f s).portA = s.portA ∧ (fillSample f s).portB = s.portB ∧
    (fillSample f s).ownSeq = s.ownSeq ∧ (fillSample f s).table = s.table ∧ (fillSample f s).zones = s.zones ∧
    (fillSample f s).burner = s.burner ∧ (fillSample f s).recovery = s.recovery ∧ (fillSample f s).tank = s.tank ∧
    (fillSample f s).accounts = s.accounts ∧ (fillSample f s).sampler.counters = s.sampler.counters ∧
    (fillSample f s).monitor = s.monitor ∧ (fillSample f s).alarms = s.alarms ∧ (fillSample f s).mgmt = s.mgmt ∧
    (fillSample f s).time = s.time ∧ (fillSample f s).store = s.store := by
  simp only [fillSample]; (repeat' split) <;> simp

@[simp] theorem sampleSlow_frame :
    (sampleSlow s).pending = s.pending ∧ (sampleSlow s).powered = s.powered ∧ (sampleSlow s).free = s.free ∧
    (sampleSlow s).settings = s.settings ∧ (sampleSlow s).portA = s.portA ∧ (sampleSlow s).portB = s.portB ∧
    (sampleSlow s).ownSeq = s.ownSeq ∧ (sampleSlow s).table = s.table ∧ (sampleSlow s).zones = s.zones ∧
    (sampleSlow s).burner = s.burner ∧ (sampleSlow s).recovery = s.recovery ∧ (sampleSlow s).tank = s.tank ∧
    (sampleSlow s).accounts = s.accounts ∧ (sampleSlow s).monitor = s.monitor ∧ (sampleSlow s).alarms = s.alarms ∧
    (sampleSlow s).mgmt = s.mgmt ∧ (sampleSlow s).time = s.time ∧ (sampleSlow s).store = s.store := by
  simp [sampleSlow, State.countRun]

@[simp] theorem sampleSecond_frame :
    (sampleSecond s).pending = s.pending ∧ (sampleSecond s).powered = s.powered ∧ (sampleSecond s).free = s.free ∧
    (sampleSecond s).settings = s.settings ∧ (sampleSecond s).portA = s.portA ∧ (sampleSecond s).portB = s.portB ∧
    (sampleSecond s).ownSeq = s.ownSeq ∧ (sampleSecond s).table = s.table ∧ (sampleSecond s).zones = s.zones ∧
    (sampleSecond s).burner = s.burner ∧ (sampleSecond s).recovery = s.recovery ∧ (sampleSecond s).tank = s.tank ∧
    (sampleSecond s).accounts = s.accounts ∧ (sampleSecond s).monitor = s.monitor ∧
    (sampleSecond s).alarms = s.alarms ∧ (sampleSecond s).mgmt = s.mgmt ∧ (sampleSecond s).time = s.time ∧
    (sampleSecond s).store = s.store := by
  simp [sampleSecond, State.countRun]

@[simp] theorem sampleFlameOut_frame :
    (sampleFlameOut s).pending = s.pending ∧ (sampleFlameOut s).powered = s.powered ∧
    (sampleFlameOut s).free = s.free ∧ (sampleFlameOut s).settings = s.settings ∧
    (sampleFlameOut s).portA = s.portA ∧ (sampleFlameOut s).portB = s.portB ∧
    (sampleFlameOut s).ownSeq = s.ownSeq ∧ (sampleFlameOut s).table = s.table ∧
    (sampleFlameOut s).zones = s.zones ∧ (sampleFlameOut s).burner = s.burner ∧
    (sampleFlameOut s).recovery = s.recovery ∧ (sampleFlameOut s).tank = s.tank ∧
    (sampleFlameOut s).accounts = s.accounts ∧ (sampleFlameOut s).monitor = s.monitor ∧
    (sampleFlameOut s).alarms = s.alarms ∧ (sampleFlameOut s).mgmt = s.mgmt ∧ (sampleFlameOut s).time = s.time ∧
    (sampleFlameOut s).store = s.store := by
  simp [sampleFlameOut, State.countRun]

@[simp] theorem sampleNoResponse_frame :
    (sampleNoResponse s).pending = s.pending ∧ (sampleNoResponse s).powered = s.powered ∧
    (sampleNoResponse s).free = s.free ∧ (sampleNoResponse s).settings = s.settings ∧
    (sampleNoResponse s).portA = s.portA ∧ (sampleNoResponse s).portB = s.portB ∧
    (sampleNoResponse s).ownSeq = s.ownSeq ∧ (sampleNoResponse s).table = s.table ∧
    (sampleNoResponse s).zones = s.zones ∧ (sampleNoResponse s).burner = s.burner ∧
    (sampleNoResponse s).recovery = s.recovery ∧ (sampleNoResponse s).tank = s.tank ∧
    (sampleNoResponse s).accounts = s.accounts ∧ (sampleNoResponse s).monitor = s.monitor ∧
    (sampleNoResponse s).alarms = s.alarms ∧ (sampleNoResponse s).mgmt = s.mgmt ∧
    (sampleNoResponse s).time = s.time ∧ (sampleNoResponse s).store = s.store := by
  simp [sampleNoResponse, State.countRun]

@[simp] theorem sampleLockout_frame :
    (sampleLockout s).pending = s.pending ∧ (sampleLockout s).powered = s.powered ∧
    (sampleLockout s).free = s.free ∧ (sampleLockout s).settings = s.settings ∧ (sampleLockout s).portA = s.portA ∧
    (sampleLockout s).portB = s.portB ∧ (sampleLockout s).ownSeq = s.ownSeq ∧ (sampleLockout s).table = s.table ∧
    (sampleLockout s).zones = s.zones ∧ (sampleLockout s).burner = s.burner ∧
    (sampleLockout s).recovery = s.recovery ∧ (sampleLockout s).tank = s.tank ∧
    (sampleLockout s).accounts = s.accounts ∧ (sampleLockout s).monitor = s.monitor ∧
    (sampleLockout s).alarms = s.alarms ∧ (sampleLockout s).mgmt = s.mgmt ∧ (sampleLockout s).time = s.time ∧
    (sampleLockout s).store = s.store := by
  simp [sampleLockout, State.countRun]

@[simp] theorem sampleAutoReset_frame :
    (sampleAutoReset s).pending = s.pending ∧ (sampleAutoReset s).powered = s.powered ∧
    (sampleAutoReset s).free = s.free ∧ (sampleAutoReset s).settings = s.settings ∧
    (sampleAutoReset s).portA = s.portA ∧ (sampleAutoReset s).portB = s.portB ∧
    (sampleAutoReset s).ownSeq = s.ownSeq ∧ (sampleAutoReset s).table = s.table ∧
    (sampleAutoReset s).zones = s.zones ∧ (sampleAutoReset s).burner = s.burner ∧
    (sampleAutoReset s).recovery = s.recovery ∧ (sampleAutoReset s).tank = s.tank ∧
    (sampleAutoReset s).accounts = s.accounts ∧ (sampleAutoReset s).monitor = s.monitor ∧
    (sampleAutoReset s).alarms = s.alarms ∧ (sampleAutoReset s).mgmt = s.mgmt ∧ (sampleAutoReset s).time = s.time ∧
    (sampleAutoReset s).store = s.store := by
  simp [sampleAutoReset, State.countRun]

@[simp] theorem sampleLatency_frame (n : Nat) :
    (sampleLatency n s).pending = s.pending ∧ (sampleLatency n s).powered = s.powered ∧
    (sampleLatency n s).free = s.free ∧ (sampleLatency n s).settings = s.settings ∧
    (sampleLatency n s).portA = s.portA ∧ (sampleLatency n s).portB = s.portB ∧
    (sampleLatency n s).ownSeq = s.ownSeq ∧ (sampleLatency n s).table = s.table ∧
    (sampleLatency n s).zones = s.zones ∧ (sampleLatency n s).burner = s.burner ∧
    (sampleLatency n s).recovery = s.recovery ∧ (sampleLatency n s).tank = s.tank ∧
    (sampleLatency n s).accounts = s.accounts ∧ (sampleLatency n s).sampler.counters = s.sampler.counters ∧
    (sampleLatency n s).monitor = s.monitor ∧ (sampleLatency n s).alarms = s.alarms ∧
    (sampleLatency n s).mgmt = s.mgmt ∧ (sampleLatency n s).time = s.time ∧ (sampleLatency n s).store = s.store := by
  simp only [sampleLatency]; (repeat' split) <;> simp

@[simp] theorem sampleStart_frame (p : Bool) :
    (sampleStart p s).pending = s.pending ∧ (sampleStart p s).powered = s.powered ∧
    (sampleStart p s).free = s.free ∧ (sampleStart p s).settings = s.settings ∧ (sampleStart p s).portA = s.portA ∧
    (sampleStart p s).portB = s.portB ∧ (sampleStart p s).ownSeq = s.ownSeq ∧ (sampleStart p s).table = s.table ∧
    (sampleStart p s).zones = s.zones ∧ (sampleStart p s).burner = s.burner ∧
    (sampleStart p s).recovery = s.recovery ∧ (sampleStart p s).tank = s.tank ∧
    (sampleStart p s).accounts = s.accounts ∧ (sampleStart p s).monitor = s.monitor ∧
    (sampleStart p s).alarms = s.alarms ∧ (sampleStart p s).mgmt = s.mgmt ∧ (sampleStart p s).time = s.time ∧
    (sampleStart p s).store = s.store := by
  simp only [sampleStart]; (repeat' split) <;> simp

@[simp] theorem sampleEnd_frame (c : EndCause) :
    (sampleEnd c s).pending = s.pending ∧ (sampleEnd c s).powered = s.powered ∧ (sampleEnd c s).free = s.free ∧
    (sampleEnd c s).settings = s.settings ∧ (sampleEnd c s).portA.queue = s.portA.queue ∧
    (sampleEnd c s).portA.counts = s.portA.counts ∧ (sampleEnd c s).portA.reply = s.portA.reply ∧
    (sampleEnd c s).portA.alarm = s.portA.alarm ∧ (sampleEnd c s).portA.occupancy = s.portA.occupancy ∧
    (sampleEnd c s).portB.queue = s.portB.queue ∧ (sampleEnd c s).portB.counts = s.portB.counts ∧
    (sampleEnd c s).portB.reply = s.portB.reply ∧ (sampleEnd c s).portB.alarm = s.portB.alarm ∧
    (sampleEnd c s).portB.occupancy = s.portB.occupancy ∧ (sampleEnd c s).table.entries = s.table.entries ∧
    (sampleEnd c s).table.inFlight = s.table.inFlight ∧ (sampleEnd c s).table.forced = s.table.forced ∧
    (sampleEnd c s).table.pointer = s.table.pointer ∧ (sampleEnd c s).table.moves = s.table.moves ∧
    (sampleEnd c s).table.conflicts = s.table.conflicts ∧ (sampleEnd c s).table.ownHeard = s.table.ownHeard ∧
    (sampleEnd c s).zones = s.zones ∧ (sampleEnd c s).burner = s.burner ∧ (sampleEnd c s).recovery = s.recovery ∧
    (sampleEnd c s).tank = s.tank ∧ (sampleEnd c s).accounts = s.accounts ∧
    (sampleEnd c s).sampler.counters = s.sampler.counters ∧ (sampleEnd c s).monitor = s.monitor ∧
    (sampleEnd c s).alarms.waiting = s.alarms.waiting ∧ (sampleEnd c s).alarms.sendTimes = s.alarms.sendTimes ∧
    (sampleEnd c s).mgmt = s.mgmt ∧ (sampleEnd c s).time = s.time ∧ (sampleEnd c s).store = s.store := by
  simp only [sampleEnd]; (repeat' split) <;> simp

end Sys2Proof.Machine
end

