-- ==== Sys2Proof/Laws/FramesBurner.lean ====
section
/-! SUPPORT. What each shared operation of the burner sequencer leaves as it stands: everything but
what the lemma does not name. -/

namespace Sys2Proof.Machine

variable (s : State)

/-- Stopping the sequencer's timers leaves the state, the demand, RUN and the start-time list. -/
@[simp] theorem stopBurnerTimers_frame (b : Burner) :
    (stopBurnerTimers b).state = b.state ∧ (stopBurnerTimers b).demand = b.demand ∧
    (stopBurnerTimers b).run = b.run ∧ (stopBurnerTimers b).startTimes = b.startTimes := ⟨rfl, rfl, rfl, rfl⟩

@[simp] theorem endStart_frame (c : EndCause) :
    (endStart c s).pending = s.pending ∧ (endStart c s).powered = s.powered ∧ (endStart c s).free = s.free ∧
    (endStart c s).settings = s.settings ∧ (endStart c s).portA.queue = s.portA.queue ∧
    (endStart c s).portA.counts = s.portA.counts ∧ (endStart c s).portA.reply = s.portA.reply ∧
    (endStart c s).portA.alarm = s.portA.alarm ∧ (endStart c s).portA.occupancy = s.portA.occupancy ∧
    (endStart c s).portB.queue = s.portB.queue ∧ (endStart c s).portB.counts = s.portB.counts ∧
    (endStart c s).portB.reply = s.portB.reply ∧ (endStart c s).portB.alarm = s.portB.alarm ∧
    (endStart c s).portB.occupancy = s.portB.occupancy ∧ (endStart c s).table.entries = s.table.entries ∧
    (endStart c s).table.inFlight = s.table.inFlight ∧ (endStart c s).table.forced = s.table.forced ∧
    (endStart c s).table.pointer = s.table.pointer ∧ (endStart c s).table.moves = s.table.moves ∧
    (endStart c s).table.conflicts = s.table.conflicts ∧ (endStart c s).table.ownHeard = s.table.ownHeard ∧
    (endStart c s).zones = s.zones ∧ (endStart c s).burner.state = s.burner.state ∧
    (endStart c s).burner.demand = s.burner.demand ∧ (endStart c s).burner.run = s.burner.run ∧
    (endStart c s).burner.startTimes = s.burner.startTimes ∧ (endStart c s).recovery = s.recovery ∧
    (endStart c s).tank = s.tank ∧ (endStart c s).accounts = s.accounts ∧
    (endStart c s).sampler.counters = s.sampler.counters ∧ (endStart c s).monitor = s.monitor ∧
    (endStart c s).alarms.waiting = s.alarms.waiting ∧ (endStart c s).alarms.sendTimes = s.alarms.sendTimes ∧
    (endStart c s).mgmt = s.mgmt ∧ (endStart c s).time = s.time ∧ (endStart c s).store = s.store := by
  simp only [endStart]; (repeat' split) <;> simp

@[simp] theorem trimStarts_frame :
    (trimStarts s).pending = s.pending ∧ (trimStarts s).powered = s.powered ∧ (trimStarts s).free = s.free ∧
    (trimStarts s).settings = s.settings ∧ (trimStarts s).portA = s.portA ∧ (trimStarts s).portB = s.portB ∧
    (trimStarts s).ownSeq = s.ownSeq ∧ (trimStarts s).table = s.table ∧ (trimStarts s).zones = s.zones ∧
    (trimStarts s).burner.state = s.burner.state ∧ (trimStarts s).burner.demand = s.burner.demand ∧
    (trimStarts s).burner.run = s.burner.run ∧ (trimStarts s).recovery = s.recovery ∧
    (trimStarts s).tank = s.tank ∧ (trimStarts s).accounts = s.accounts ∧ (trimStarts s).sampler = s.sampler ∧
    (trimStarts s).monitor = s.monitor ∧ (trimStarts s).alarms = s.alarms ∧ (trimStarts s).mgmt = s.mgmt ∧
    (trimStarts s).time = s.time ∧ (trimStarts s).store = s.store := by
  simp only [trimStarts]; (repeat' split) <;> simp

@[simp] theorem toPacing_frame :
    (toPacing s).pending = s.pending ∧ (toPacing s).powered = s.powered ∧ (toPacing s).free = s.free ∧
    (toPacing s).settings = s.settings ∧ (toPacing s).portA.queue = s.portA.queue ∧
    (toPacing s).portA.counts = s.portA.counts ∧ (toPacing s).portA.reply = s.portA.reply ∧
    (toPacing s).portA.alarm = s.portA.alarm ∧ (toPacing s).portA.occupancy = s.portA.occupancy ∧
    (toPacing s).portB.queue = s.portB.queue ∧ (toPacing s).portB.counts = s.portB.counts ∧
    (toPacing s).portB.reply = s.portB.reply ∧ (toPacing s).portB.alarm = s.portB.alarm ∧
    (toPacing s).portB.occupancy = s.portB.occupancy ∧ (toPacing s).table.entries = s.table.entries ∧
    (toPacing s).table.inFlight = s.table.inFlight ∧ (toPacing s).table.forced = s.table.forced ∧
    (toPacing s).table.pointer = s.table.pointer ∧ (toPacing s).table.moves = s.table.moves ∧
    (toPacing s).table.conflicts = s.table.conflicts ∧ (toPacing s).table.ownHeard = s.table.ownHeard ∧
    (toPacing s).zones.zones = s.zones.zones ∧ (toPacing s).zones.units = s.zones.units ∧
    (toPacing s).zones.valves = s.zones.valves ∧ (toPacing s).zones.floor = s.zones.floor ∧
    (toPacing s).zones.demand = s.zones.demand ∧ (toPacing s).burner.demand = s.burner.demand ∧
    (toPacing s).burner.run = s.burner.run ∧ (toPacing s).burner.startTimes = s.burner.startTimes ∧
    (toPacing s).recovery.state = s.recovery.state ∧ (toPacing s).recovery.records = s.recovery.records ∧
    (toPacing s).recovery.resetTimes = s.recovery.resetTimes ∧
    (toPacing s).recovery.hardLatch = s.recovery.hardLatch ∧ (toPacing s).recovery.lockout = s.recovery.lockout ∧
    (toPacing s).recovery.suspend = s.recovery.suspend ∧ (toPacing s).tank = s.tank ∧
    (toPacing s).accounts = s.accounts ∧ (toPacing s).sampler = s.sampler ∧
    (toPacing s).monitor.reset = s.monitor.reset ∧ (toPacing s).alarms.waiting = s.alarms.waiting ∧
    (toPacing s).alarms.sendTimes = s.alarms.sendTimes ∧ (toPacing s).mgmt = s.mgmt ∧ (toPacing s).time = s.time ∧
    (toPacing s).store = s.store := by
  simp only [toPacing]; (repeat' split) <;> simp

@[simp] theorem boxAnswers_frame :
    (boxAnswers s).pending = s.pending ∧ (boxAnswers s).powered = s.powered ∧ (boxAnswers s).free = s.free ∧
    (boxAnswers s).settings = s.settings ∧ (boxAnswers s).portA.queue = s.portA.queue ∧
    (boxAnswers s).portA.counts = s.portA.counts ∧ (boxAnswers s).portA.reply = s.portA.reply ∧
    (boxAnswers s).portA.alarm = s.portA.alarm ∧ (boxAnswers s).portA.occupancy = s.portA.occupancy ∧
    (boxAnswers s).portB.queue = s.portB.queue ∧ (boxAnswers s).portB.counts = s.portB.counts ∧
    (boxAnswers s).portB.reply = s.portB.reply ∧ (boxAnswers s).portB.alarm = s.portB.alarm ∧
    (boxAnswers s).portB.occupancy = s.portB.occupancy ∧ (boxAnswers s).table.entries = s.table.entries ∧
    (boxAnswers s).table.inFlight = s.table.inFlight ∧ (boxAnswers s).table.forced = s.table.forced ∧
    (boxAnswers s).table.pointer = s.table.pointer ∧ (boxAnswers s).table.moves = s.table.moves ∧
    (boxAnswers s).table.conflicts = s.table.conflicts ∧ (boxAnswers s).table.ownHeard = s.table.ownHeard ∧
    (boxAnswers s).zones.zones = s.zones.zones ∧ (boxAnswers s).zones.units = s.zones.units ∧
    (boxAnswers s).zones.valves = s.zones.valves ∧ (boxAnswers s).zones.floor = s.zones.floor ∧
    (boxAnswers s).zones.demand = s.zones.demand ∧ (boxAnswers s).burner.demand = s.burner.demand ∧
    (boxAnswers s).burner.run = s.burner.run ∧ (boxAnswers s).burner.startTimes = s.burner.startTimes ∧
    (boxAnswers s).recovery.state = s.recovery.state ∧ (boxAnswers s).recovery.records = s.recovery.records ∧
    (boxAnswers s).recovery.resetTimes = s.recovery.resetTimes ∧
    (boxAnswers s).recovery.hardLatch = s.recovery.hardLatch ∧
    (boxAnswers s).recovery.lockout = s.recovery.lockout ∧ (boxAnswers s).recovery.suspend = s.recovery.suspend ∧
    (boxAnswers s).tank = s.tank ∧ (boxAnswers s).accounts = s.accounts ∧ (boxAnswers s).sampler = s.sampler ∧
    (boxAnswers s).monitor.reset = s.monitor.reset ∧ (boxAnswers s).alarms.waiting = s.alarms.waiting ∧
    (boxAnswers s).alarms.sendTimes = s.alarms.sendTimes ∧ (boxAnswers s).mgmt = s.mgmt ∧
    (boxAnswers s).time = s.time ∧ (boxAnswers s).store = s.store := by
  simp only [boxAnswers]; (repeat' split) <;> simp

@[simp] theorem callBox_frame :
    (callBox s).pending = s.pending ∧ (callBox s).powered = s.powered ∧ (callBox s).free = s.free ∧
    (callBox s).settings = s.settings ∧ (callBox s).portA.queue = s.portA.queue ∧
    (callBox s).portA.counts = s.portA.counts ∧ (callBox s).portA.reply = s.portA.reply ∧
    (callBox s).portA.alarm = s.portA.alarm ∧ (callBox s).portA.occupancy = s.portA.occupancy ∧
    (callBox s).portB.queue = s.portB.queue ∧ (callBox s).portB.counts = s.portB.counts ∧
    (callBox s).portB.reply = s.portB.reply ∧ (callBox s).portB.alarm = s.portB.alarm ∧
    (callBox s).portB.occupancy = s.portB.occupancy ∧ (callBox s).table.entries = s.table.entries ∧
    (callBox s).table.inFlight = s.table.inFlight ∧ (callBox s).table.forced = s.table.forced ∧
    (callBox s).table.pointer = s.table.pointer ∧ (callBox s).table.moves = s.table.moves ∧
    (callBox s).table.conflicts = s.table.conflicts ∧ (callBox s).table.ownHeard = s.table.ownHeard ∧
    (callBox s).zones.zones = s.zones.zones ∧ (callBox s).zones.units = s.zones.units ∧
    (callBox s).zones.valves = s.zones.valves ∧ (callBox s).zones.floor = s.zones.floor ∧
    (callBox s).zones.demand = s.zones.demand ∧ (callBox s).burner.demand = s.burner.demand ∧
    (callBox s).burner.run = s.burner.run ∧ (callBox s).burner.startTimes = s.burner.startTimes ∧
    (callBox s).recovery.state = s.recovery.state ∧ (callBox s).recovery.records = s.recovery.records ∧
    (callBox s).recovery.resetTimes = s.recovery.resetTimes ∧
    (callBox s).recovery.hardLatch = s.recovery.hardLatch ∧ (callBox s).recovery.lockout = s.recovery.lockout ∧
    (callBox s).recovery.suspend = s.recovery.suspend ∧ (callBox s).tank = s.tank ∧
    (callBox s).accounts = s.accounts ∧ (callBox s).sampler = s.sampler ∧
    (callBox s).monitor.reset = s.monitor.reset ∧ (callBox s).alarms.waiting = s.alarms.waiting ∧
    (callBox s).alarms.sendTimes = s.alarms.sendTimes ∧ (callBox s).mgmt = s.mgmt ∧ (callBox s).time = s.time ∧
    (callBox s).store = s.store := by
  simp only [callBox]; (repeat' split) <;> simp

@[simp] theorem beginStart_frame :
    (beginStart s).pending = s.pending ∧ (beginStart s).powered = s.powered ∧ (beginStart s).free = s.free ∧
    (beginStart s).settings = s.settings ∧ (beginStart s).portA.queue = s.portA.queue ∧
    (beginStart s).portA.counts = s.portA.counts ∧ (beginStart s).portA.reply = s.portA.reply ∧
    (beginStart s).portA.alarm = s.portA.alarm ∧ (beginStart s).portA.occupancy = s.portA.occupancy ∧
    (beginStart s).portB.queue = s.portB.queue ∧ (beginStart s).portB.counts = s.portB.counts ∧
    (beginStart s).portB.reply = s.portB.reply ∧ (beginStart s).portB.alarm = s.portB.alarm ∧
    (beginStart s).portB.occupancy = s.portB.occupancy ∧ (beginStart s).table.entries = s.table.entries ∧
    (beginStart s).table.inFlight = s.table.inFlight ∧ (beginStart s).table.forced = s.table.forced ∧
    (beginStart s).table.pointer = s.table.pointer ∧ (beginStart s).table.moves = s.table.moves ∧
    (beginStart s).table.conflicts = s.table.conflicts ∧ (beginStart s).table.ownHeard = s.table.ownHeard ∧
    (beginStart s).zones.zones = s.zones.zones ∧ (beginStart s).zones.units = s.zones.units ∧
    (beginStart s).zones.valves = s.zones.valves ∧ (beginStart s).zones.floor = s.zones.floor ∧
    (beginStart s).zones.demand = s.zones.demand ∧ (beginStart s).burner.demand = s.burner.demand ∧
    (beginStart s).burner.run = s.burner.run ∧ (beginStart s).recovery.state = s.recovery.state ∧
    (beginStart s).recovery.records = s.recovery.records ∧
    (beginStart s).recovery.resetTimes = s.recovery.resetTimes ∧
    (beginStart s).recovery.hardLatch = s.recovery.hardLatch ∧
    (beginStart s).recovery.lockout = s.recovery.lockout ∧ (beginStart s).recovery.suspend = s.recovery.suspend ∧
    (beginStart s).tank = s.tank ∧ (beginStart s).accounts = s.accounts ∧
    (beginStart s).monitor.reset = s.monitor.reset ∧ (beginStart s).alarms.waiting = s.alarms.waiting ∧
    (beginStart s).alarms.sendTimes = s.alarms.sendTimes ∧ (beginStart s).mgmt = s.mgmt ∧
    (beginStart s).time = s.time ∧ (beginStart s).store = s.store := by
  simp only [beginStart]; (repeat' split) <;> simp

@[simp] theorem proceedStart_frame :
    (proceedStart s).pending = s.pending ∧ (proceedStart s).powered = s.powered ∧ (proceedStart s).free = s.free ∧
    (proceedStart s).settings = s.settings ∧ (proceedStart s).portA.queue = s.portA.queue ∧
    (proceedStart s).portA.counts = s.portA.counts ∧ (proceedStart s).portA.reply = s.portA.reply ∧
    (proceedStart s).portA.alarm = s.portA.alarm ∧ (proceedStart s).portA.occupancy = s.portA.occupancy ∧
    (proceedStart s).portB.queue = s.portB.queue ∧ (proceedStart s).portB.counts = s.portB.counts ∧
    (proceedStart s).portB.reply = s.portB.reply ∧ (proceedStart s).portB.alarm = s.portB.alarm ∧
    (proceedStart s).portB.occupancy = s.portB.occupancy ∧ (proceedStart s).table.entries = s.table.entries ∧
    (proceedStart s).table.inFlight = s.table.inFlight ∧ (proceedStart s).table.forced = s.table.forced ∧
    (proceedStart s).table.pointer = s.table.pointer ∧ (proceedStart s).table.moves = s.table.moves ∧
    (proceedStart s).table.conflicts = s.table.conflicts ∧ (proceedStart s).table.ownHeard = s.table.ownHeard ∧
    (proceedStart s).zones.zones = s.zones.zones ∧ (proceedStart s).zones.units = s.zones.units ∧
    (proceedStart s).zones.valves = s.zones.valves ∧ (proceedStart s).zones.floor = s.zones.floor ∧
    (proceedStart s).zones.demand = s.zones.demand ∧ (proceedStart s).burner.demand = s.burner.demand ∧
    (proceedStart s).burner.run = s.burner.run ∧ (proceedStart s).recovery.state = s.recovery.state ∧
    (proceedStart s).recovery.records = s.recovery.records ∧
    (proceedStart s).recovery.resetTimes = s.recovery.resetTimes ∧
    (proceedStart s).recovery.hardLatch = s.recovery.hardLatch ∧
    (proceedStart s).recovery.lockout = s.recovery.lockout ∧
    (proceedStart s).recovery.suspend = s.recovery.suspend ∧ (proceedStart s).tank = s.tank ∧
    (proceedStart s).accounts = s.accounts ∧ (proceedStart s).monitor.reset = s.monitor.reset ∧
    (proceedStart s).alarms.waiting = s.alarms.waiting ∧ (proceedStart s).alarms.sendTimes = s.alarms.sendTimes ∧
    (proceedStart s).mgmt = s.mgmt ∧ (proceedStart s).time = s.time ∧ (proceedStart s).store = s.store := by
  simp only [proceedStart]; (repeat' split) <;> simp

@[simp] theorem startDecision_frame :
    (startDecision s).pending = s.pending ∧ (startDecision s).powered = s.powered ∧
    (startDecision s).free = s.free ∧ (startDecision s).settings = s.settings ∧
    (startDecision s).portA.queue = s.portA.queue ∧ (startDecision s).portA.counts = s.portA.counts ∧
    (startDecision s).portA.reply = s.portA.reply ∧ (startDecision s).portA.alarm = s.portA.alarm ∧
    (startDecision s).portA.occupancy = s.portA.occupancy ∧ (startDecision s).portB.queue = s.portB.queue ∧
    (startDecision s).portB.counts = s.portB.counts ∧ (startDecision s).portB.reply = s.portB.reply ∧
    (startDecision s).portB.alarm = s.portB.alarm ∧ (startDecision s).portB.occupancy = s.portB.occupancy ∧
    (startDecision s).table.entries = s.table.entries ∧ (startDecision s).table.inFlight = s.table.inFlight ∧
    (startDecision s).table.forced = s.table.forced ∧ (startDecision s).table.pointer = s.table.pointer ∧
    (startDecision s).table.moves = s.table.moves ∧ (startDecision s).table.conflicts = s.table.conflicts ∧
    (startDecision s).table.ownHeard = s.table.ownHeard ∧ (startDecision s).zones.zones = s.zones.zones ∧
    (startDecision s).zones.units = s.zones.units ∧ (startDecision s).zones.valves = s.zones.valves ∧
    (startDecision s).zones.floor = s.zones.floor ∧ (startDecision s).zones.demand = s.zones.demand ∧
    (startDecision s).burner.demand = s.burner.demand ∧ (startDecision s).burner.run = s.burner.run ∧
    (startDecision s).recovery.state = s.recovery.state ∧ (startDecision s).recovery.records = s.recovery.records ∧
    (startDecision s).recovery.resetTimes = s.recovery.resetTimes ∧
    (startDecision s).recovery.hardLatch = s.recovery.hardLatch ∧
    (startDecision s).recovery.lockout = s.recovery.lockout ∧
    (startDecision s).recovery.suspend = s.recovery.suspend ∧ (startDecision s).tank = s.tank ∧
    (startDecision s).accounts = s.accounts ∧ (startDecision s).monitor.reset = s.monitor.reset ∧
    (startDecision s).alarms.waiting = s.alarms.waiting ∧ (startDecision s).alarms.sendTimes = s.alarms.sendTimes ∧
    (startDecision s).mgmt = s.mgmt ∧ (startDecision s).time = s.time ∧ (startDecision s).store = s.store := by
  simp only [startDecision]; (repeat' split) <;> simp

@[simp] theorem decideIfCalled_frame :
    (decideIfCalled s).pending = s.pending ∧ (decideIfCalled s).powered = s.powered ∧
    (decideIfCalled s).free = s.free ∧ (decideIfCalled s).settings = s.settings ∧
    (decideIfCalled s).portA.queue = s.portA.queue ∧ (decideIfCalled s).portA.counts = s.portA.counts ∧
    (decideIfCalled s).portA.reply = s.portA.reply ∧ (decideIfCalled s).portA.alarm = s.portA.alarm ∧
    (decideIfCalled s).portA.occupancy = s.portA.occupancy ∧ (decideIfCalled s).portB.queue = s.portB.queue ∧
    (decideIfCalled s).portB.counts = s.portB.counts ∧ (decideIfCalled s).portB.reply = s.portB.reply ∧
    (decideIfCalled s).portB.alarm = s.portB.alarm ∧ (decideIfCalled s).portB.occupancy = s.portB.occupancy ∧
    (decideIfCalled s).table.entries = s.table.entries ∧ (decideIfCalled s).table.inFlight = s.table.inFlight ∧
    (decideIfCalled s).table.forced = s.table.forced ∧ (decideIfCalled s).table.pointer = s.table.pointer ∧
    (decideIfCalled s).table.moves = s.table.moves ∧ (decideIfCalled s).table.conflicts = s.table.conflicts ∧
    (decideIfCalled s).table.ownHeard = s.table.ownHeard ∧ (decideIfCalled s).zones.zones = s.zones.zones ∧
    (decideIfCalled s).zones.units = s.zones.units ∧ (decideIfCalled s).zones.valves = s.zones.valves ∧
    (decideIfCalled s).zones.floor = s.zones.floor ∧ (decideIfCalled s).zones.demand = s.zones.demand ∧
    (decideIfCalled s).burner.demand = s.burner.demand ∧ (decideIfCalled s).burner.run = s.burner.run ∧
    (decideIfCalled s).recovery.state = s.recovery.state ∧
    (decideIfCalled s).recovery.records = s.recovery.records ∧
    (decideIfCalled s).recovery.resetTimes = s.recovery.resetTimes ∧
    (decideIfCalled s).recovery.hardLatch = s.recovery.hardLatch ∧
    (decideIfCalled s).recovery.lockout = s.recovery.lockout ∧
    (decideIfCalled s).recovery.suspend = s.recovery.suspend ∧ (decideIfCalled s).tank = s.tank ∧
    (decideIfCalled s).accounts = s.accounts ∧ (decideIfCalled s).monitor.reset = s.monitor.reset ∧
    (decideIfCalled s).alarms.waiting = s.alarms.waiting ∧
    (decideIfCalled s).alarms.sendTimes = s.alarms.sendTimes ∧ (decideIfCalled s).mgmt = s.mgmt ∧
    (decideIfCalled s).time = s.time ∧ (decideIfCalled s).store = s.store := by
  simp only [decideIfCalled]; (repeat' split) <;> simp

@[simp] theorem toStandby_frame :
    (toStandby s).pending = s.pending ∧ (toStandby s).powered = s.powered ∧ (toStandby s).free = s.free ∧
    (toStandby s).settings = s.settings ∧ (toStandby s).portA.queue = s.portA.queue ∧
    (toStandby s).portA.counts = s.portA.counts ∧ (toStandby s).portA.reply = s.portA.reply ∧
    (toStandby s).portA.alarm = s.portA.alarm ∧ (toStandby s).portA.occupancy = s.portA.occupancy ∧
    (toStandby s).portB.queue = s.portB.queue ∧ (toStandby s).portB.counts = s.portB.counts ∧
    (toStandby s).portB.reply = s.portB.reply ∧ (toStandby s).portB.alarm = s.portB.alarm ∧
    (toStandby s).portB.occupancy = s.portB.occupancy ∧ (toStandby s).table.entries = s.table.entries ∧
    (toStandby s).table.inFlight = s.table.inFlight ∧ (toStandby s).table.forced = s.table.forced ∧
    (toStandby s).table.pointer = s.table.pointer ∧ (toStandby s).table.moves = s.table.moves ∧
    (toStandby s).table.conflicts = s.table.conflicts ∧ (toStandby s).table.ownHeard = s.table.ownHeard ∧
    (toStandby s).zones.zones = s.zones.zones ∧ (toStandby s).zones.units = s.zones.units ∧
    (toStandby s).zones.valves = s.zones.valves ∧ (toStandby s).zones.floor = s.zones.floor ∧
    (toStandby s).zones.demand = s.zones.demand ∧ (toStandby s).burner.demand = s.burner.demand ∧
    (toStandby s).burner.run = s.burner.run ∧ (toStandby s).recovery.state = s.recovery.state ∧
    (toStandby s).recovery.records = s.recovery.records ∧
    (toStandby s).recovery.resetTimes = s.recovery.resetTimes ∧
    (toStandby s).recovery.hardLatch = s.recovery.hardLatch ∧ (toStandby s).recovery.lockout = s.recovery.lockout ∧
    (toStandby s).recovery.suspend = s.recovery.suspend ∧ (toStandby s).tank = s.tank ∧
    (toStandby s).accounts = s.accounts ∧ (toStandby s).monitor.reset = s.monitor.reset ∧
    (toStandby s).alarms.waiting = s.alarms.waiting ∧ (toStandby s).alarms.sendTimes = s.alarms.sendTimes ∧
    (toStandby s).mgmt = s.mgmt ∧ (toStandby s).time = s.time ∧ (toStandby s).store = s.store := by
  simp only [toStandby]; (repeat' split) <;> simp

@[simp] theorem leaveRunOn_frame :
    (leaveRunOn s).pending = s.pending ∧ (leaveRunOn s).powered = s.powered ∧ (leaveRunOn s).free = s.free ∧
    (leaveRunOn s).settings = s.settings ∧ (leaveRunOn s).portA.queue = s.portA.queue ∧
    (leaveRunOn s).portA.counts = s.portA.counts ∧ (leaveRunOn s).portA.reply = s.portA.reply ∧
    (leaveRunOn s).portA.alarm = s.portA.alarm ∧ (leaveRunOn s).portA.occupancy = s.portA.occupancy ∧
    (leaveRunOn s).portB.queue = s.portB.queue ∧ (leaveRunOn s).portB.counts = s.portB.counts ∧
    (leaveRunOn s).portB.reply = s.portB.reply ∧ (leaveRunOn s).portB.alarm = s.portB.alarm ∧
    (leaveRunOn s).portB.occupancy = s.portB.occupancy ∧ (leaveRunOn s).table.entries = s.table.entries ∧
    (leaveRunOn s).table.inFlight = s.table.inFlight ∧ (leaveRunOn s).table.forced = s.table.forced ∧
    (leaveRunOn s).table.pointer = s.table.pointer ∧ (leaveRunOn s).table.moves = s.table.moves ∧
    (leaveRunOn s).table.conflicts = s.table.conflicts ∧ (leaveRunOn s).table.ownHeard = s.table.ownHeard ∧
    (leaveRunOn s).zones.zones = s.zones.zones ∧ (leaveRunOn s).zones.units = s.zones.units ∧
    (leaveRunOn s).zones.valves = s.zones.valves ∧ (leaveRunOn s).zones.floor = s.zones.floor ∧
    (leaveRunOn s).zones.demand = s.zones.demand ∧ (leaveRunOn s).burner.demand = s.burner.demand ∧
    (leaveRunOn s).burner.run = s.burner.run ∧ (leaveRunOn s).recovery.state = s.recovery.state ∧
    (leaveRunOn s).recovery.records = s.recovery.records ∧
    (leaveRunOn s).recovery.resetTimes = s.recovery.resetTimes ∧
    (leaveRunOn s).recovery.hardLatch = s.recovery.hardLatch ∧
    (leaveRunOn s).recovery.lockout = s.recovery.lockout ∧ (leaveRunOn s).recovery.suspend = s.recovery.suspend ∧
    (leaveRunOn s).tank = s.tank ∧ (leaveRunOn s).accounts = s.accounts ∧
    (leaveRunOn s).monitor.reset = s.monitor.reset ∧ (leaveRunOn s).alarms.waiting = s.alarms.waiting ∧
    (leaveRunOn s).alarms.sendTimes = s.alarms.sendTimes ∧ (leaveRunOn s).mgmt = s.mgmt ∧
    (leaveRunOn s).time = s.time ∧ (leaveRunOn s).store = s.store := by
  simp only [leaveRunOn]; (repeat' split) <;> simp

@[simp] theorem withdrawCall_frame :
    (withdrawCall s).pending = s.pending ∧ (withdrawCall s).powered = s.powered ∧ (withdrawCall s).free = s.free ∧
    (withdrawCall s).settings = s.settings ∧ (withdrawCall s).portA.queue = s.portA.queue ∧
    (withdrawCall s).portA.counts = s.portA.counts ∧ (withdrawCall s).portA.reply = s.portA.reply ∧
    (withdrawCall s).portA.alarm = s.portA.alarm ∧ (withdrawCall s).portA.occupancy = s.portA.occupancy ∧
    (withdrawCall s).portB.queue = s.portB.queue ∧ (withdrawCall s).portB.counts = s.portB.counts ∧
    (withdrawCall s).portB.reply = s.portB.reply ∧ (withdrawCall s).portB.alarm = s.portB.alarm ∧
    (withdrawCall s).portB.occupancy = s.portB.occupancy ∧ (withdrawCall s).table.entries = s.table.entries ∧
    (withdrawCall s).table.inFlight = s.table.inFlight ∧ (withdrawCall s).table.forced = s.table.forced ∧
    (withdrawCall s).table.pointer = s.table.pointer ∧ (withdrawCall s).table.moves = s.table.moves ∧
    (withdrawCall s).table.conflicts = s.table.conflicts ∧ (withdrawCall s).table.ownHeard = s.table.ownHeard ∧
    (withdrawCall s).zones.zones = s.zones.zones ∧ (withdrawCall s).zones.units = s.zones.units ∧
    (withdrawCall s).zones.valves = s.zones.valves ∧ (withdrawCall s).zones.floor = s.zones.floor ∧
    (withdrawCall s).zones.demand = s.zones.demand ∧ (withdrawCall s).burner.demand = s.burner.demand ∧
    (withdrawCall s).burner.run = s.burner.run ∧ (withdrawCall s).recovery.state = s.recovery.state ∧
    (withdrawCall s).recovery.records = s.recovery.records ∧
    (withdrawCall s).recovery.resetTimes = s.recovery.resetTimes ∧
    (withdrawCall s).recovery.hardLatch = s.recovery.hardLatch ∧
    (withdrawCall s).recovery.lockout = s.recovery.lockout ∧
    (withdrawCall s).recovery.suspend = s.recovery.suspend ∧ (withdrawCall s).tank = s.tank ∧
    (withdrawCall s).accounts = s.accounts ∧ (withdrawCall s).monitor.reset = s.monitor.reset ∧
    (withdrawCall s).alarms.waiting = s.alarms.waiting ∧ (withdrawCall s).alarms.sendTimes = s.alarms.sendTimes ∧
    (withdrawCall s).mgmt = s.mgmt ∧ (withdrawCall s).time = s.time ∧ (withdrawCall s).store = s.store := by
  simp only [withdrawCall]; (repeat' split) <;> simp

@[simp] theorem demandRises_frame :
    (demandRises s).pending = s.pending ∧ (demandRises s).powered = s.powered ∧ (demandRises s).free = s.free ∧
    (demandRises s).settings = s.settings ∧ (demandRises s).portA.queue = s.portA.queue ∧
    (demandRises s).portA.counts = s.portA.counts ∧ (demandRises s).portA.reply = s.portA.reply ∧
    (demandRises s).portA.alarm = s.portA.alarm ∧ (demandRises s).portA.occupancy = s.portA.occupancy ∧
    (demandRises s).portB.queue = s.portB.queue ∧ (demandRises s).portB.counts = s.portB.counts ∧
    (demandRises s).portB.reply = s.portB.reply ∧ (demandRises s).portB.alarm = s.portB.alarm ∧
    (demandRises s).portB.occupancy = s.portB.occupancy ∧ (demandRises s).table.entries = s.table.entries ∧
    (demandRises s).table.inFlight = s.table.inFlight ∧ (demandRises s).table.forced = s.table.forced ∧
    (demandRises s).table.pointer = s.table.pointer ∧ (demandRises s).table.moves = s.table.moves ∧
    (demandRises s).table.conflicts = s.table.conflicts ∧ (demandRises s).table.ownHeard = s.table.ownHeard ∧
    (demandRises s).zones.zones = s.zones.zones ∧ (demandRises s).zones.units = s.zones.units ∧
    (demandRises s).zones.valves = s.zones.valves ∧ (demandRises s).zones.floor = s.zones.floor ∧
    (demandRises s).zones.demand = s.zones.demand ∧ (demandRises s).burner.run = s.burner.run ∧
    (demandRises s).recovery.state = s.recovery.state ∧ (demandRises s).recovery.records = s.recovery.records ∧
    (demandRises s).recovery.resetTimes = s.recovery.resetTimes ∧
    (demandRises s).recovery.hardLatch = s.recovery.hardLatch ∧
    (demandRises s).recovery.lockout = s.recovery.lockout ∧ (demandRises s).recovery.suspend = s.recovery.suspend ∧
    (demandRises s).tank = s.tank ∧ (demandRises s).accounts = s.accounts ∧
    (demandRises s).monitor.reset = s.monitor.reset ∧ (demandRises s).alarms.waiting = s.alarms.waiting ∧
    (demandRises s).alarms.sendTimes = s.alarms.sendTimes ∧ (demandRises s).mgmt = s.mgmt ∧
    (demandRises s).time = s.time ∧ (demandRises s).store = s.store := by
  simp only [demandRises]; (repeat' split) <;> simp

@[simp] theorem demandFalls_frame :
    (demandFalls s).pending = s.pending ∧ (demandFalls s).powered = s.powered ∧ (demandFalls s).free = s.free ∧
    (demandFalls s).settings = s.settings ∧ (demandFalls s).portA.queue = s.portA.queue ∧
    (demandFalls s).portA.counts = s.portA.counts ∧ (demandFalls s).portA.reply = s.portA.reply ∧
    (demandFalls s).portA.alarm = s.portA.alarm ∧ (demandFalls s).portA.occupancy = s.portA.occupancy ∧
    (demandFalls s).portB.queue = s.portB.queue ∧ (demandFalls s).portB.counts = s.portB.counts ∧
    (demandFalls s).portB.reply = s.portB.reply ∧ (demandFalls s).portB.alarm = s.portB.alarm ∧
    (demandFalls s).portB.occupancy = s.portB.occupancy ∧ (demandFalls s).table.entries = s.table.entries ∧
    (demandFalls s).table.inFlight = s.table.inFlight ∧ (demandFalls s).table.forced = s.table.forced ∧
    (demandFalls s).table.pointer = s.table.pointer ∧ (demandFalls s).table.moves = s.table.moves ∧
    (demandFalls s).table.conflicts = s.table.conflicts ∧ (demandFalls s).table.ownHeard = s.table.ownHeard ∧
    (demandFalls s).zones.zones = s.zones.zones ∧ (demandFalls s).zones.units = s.zones.units ∧
    (demandFalls s).zones.valves = s.zones.valves ∧ (demandFalls s).zones.floor = s.zones.floor ∧
    (demandFalls s).zones.demand = s.zones.demand ∧ (demandFalls s).burner.run = s.burner.run ∧
    (demandFalls s).recovery.state = s.recovery.state ∧ (demandFalls s).recovery.records = s.recovery.records ∧
    (demandFalls s).recovery.resetTimes = s.recovery.resetTimes ∧
    (demandFalls s).recovery.hardLatch = s.recovery.hardLatch ∧
    (demandFalls s).recovery.lockout = s.recovery.lockout ∧ (demandFalls s).recovery.suspend = s.recovery.suspend ∧
    (demandFalls s).tank = s.tank ∧ (demandFalls s).accounts = s.accounts ∧
    (demandFalls s).monitor.reset = s.monitor.reset ∧ (demandFalls s).alarms.waiting = s.alarms.waiting ∧
    (demandFalls s).alarms.sendTimes = s.alarms.sendTimes ∧ (demandFalls s).mgmt = s.mgmt ∧
    (demandFalls s).time = s.time ∧ (demandFalls s).store = s.store := by
  simp only [demandFalls]; (repeat' split) <;> simp

@[simp] theorem takeOut_frame (new : BurnerState) (c : EndCause) :
    (takeOut new c s).pending = s.pending ∧ (takeOut new c s).powered = s.powered ∧
    (takeOut new c s).free = s.free ∧ (takeOut new c s).settings = s.settings ∧
    (takeOut new c s).portA.queue = s.portA.queue ∧ (takeOut new c s).portA.counts = s.portA.counts ∧
    (takeOut new c s).portA.reply = s.portA.reply ∧ (takeOut new c s).portA.alarm = s.portA.alarm ∧
    (takeOut new c s).portA.occupancy = s.portA.occupancy ∧ (takeOut new c s).portB.queue = s.portB.queue ∧
    (takeOut new c s).portB.counts = s.portB.counts ∧ (takeOut new c s).portB.reply = s.portB.reply ∧
    (takeOut new c s).portB.alarm = s.portB.alarm ∧ (takeOut new c s).portB.occupancy = s.portB.occupancy ∧
    (takeOut new c s).table.entries = s.table.entries ∧ (takeOut new c s).table.inFlight = s.table.inFlight ∧
    (takeOut new c s).table.forced = s.table.forced ∧ (takeOut new c s).table.pointer = s.table.pointer ∧
    (takeOut new c s).table.moves = s.table.moves ∧ (takeOut new c s).table.conflicts = s.table.conflicts ∧
    (takeOut new c s).table.ownHeard = s.table.ownHeard ∧ (takeOut new c s).zones.zones = s.zones.zones ∧
    (takeOut new c s).zones.units = s.zones.units ∧ (takeOut new c s).zones.valves = s.zones.valves ∧
    (takeOut new c s).zones.floor = s.zones.floor ∧ (takeOut new c s).zones.demand = s.zones.demand ∧
    (takeOut new c s).burner.demand = s.burner.demand ∧ (takeOut new c s).burner.run = s.burner.run ∧
    (takeOut new c s).burner.startTimes = s.burner.startTimes ∧
    (takeOut new c s).recovery.state = s.recovery.state ∧ (takeOut new c s).recovery.records = s.recovery.records ∧
    (takeOut new c s).recovery.resetTimes = s.recovery.resetTimes ∧
    (takeOut new c s).recovery.hardLatch = s.recovery.hardLatch ∧
    (takeOut new c s).recovery.lockout = s.recovery.lockout ∧
    (takeOut new c s).recovery.suspend = s.recovery.suspend ∧ (takeOut new c s).tank = s.tank ∧
    (takeOut new c s).accounts = s.accounts ∧ (takeOut new c s).sampler.counters = s.sampler.counters ∧
    (takeOut new c s).monitor.reset = s.monitor.reset ∧ (takeOut new c s).alarms.waiting = s.alarms.waiting ∧
    (takeOut new c s).alarms.sendTimes = s.alarms.sendTimes ∧ (takeOut new c s).mgmt = s.mgmt ∧
    (takeOut new c s).time = s.time ∧ (takeOut new c s).store = s.store := by
  simp only [takeOut]; (repeat' split) <;> simp

@[simp] theorem holdBurner_frame :
    (holdBurner s).pending = s.pending ∧ (holdBurner s).powered = s.powered ∧ (holdBurner s).free = s.free ∧
    (holdBurner s).settings = s.settings ∧ (holdBurner s).portA.queue = s.portA.queue ∧
    (holdBurner s).portA.counts = s.portA.counts ∧ (holdBurner s).portA.reply = s.portA.reply ∧
    (holdBurner s).portA.alarm = s.portA.alarm ∧ (holdBurner s).portA.occupancy = s.portA.occupancy ∧
    (holdBurner s).portB.queue = s.portB.queue ∧ (holdBurner s).portB.counts = s.portB.counts ∧
    (holdBurner s).portB.reply = s.portB.reply ∧ (holdBurner s).portB.alarm = s.portB.alarm ∧
    (holdBurner s).portB.occupancy = s.portB.occupancy ∧ (holdBurner s).table.entries = s.table.entries ∧
    (holdBurner s).table.inFlight = s.table.inFlight ∧ (holdBurner s).table.forced = s.table.forced ∧
    (holdBurner s).table.pointer = s.table.pointer ∧ (holdBurner s).table.moves = s.table.moves ∧
    (holdBurner s).table.conflicts = s.table.conflicts ∧ (holdBurner s).table.ownHeard = s.table.ownHeard ∧
    (holdBurner s).zones.zones = s.zones.zones ∧ (holdBurner s).zones.units = s.zones.units ∧
    (holdBurner s).zones.valves = s.zones.valves ∧ (holdBurner s).zones.floor = s.zones.floor ∧
    (holdBurner s).zones.demand = s.zones.demand ∧ (holdBurner s).burner.demand = s.burner.demand ∧
    (holdBurner s).burner.run = s.burner.run ∧ (holdBurner s).burner.startTimes = s.burner.startTimes ∧
    (holdBurner s).recovery.state = s.recovery.state ∧ (holdBurner s).recovery.records = s.recovery.records ∧
    (holdBurner s).recovery.resetTimes = s.recovery.resetTimes ∧
    (holdBurner s).recovery.hardLatch = s.recovery.hardLatch ∧
    (holdBurner s).recovery.lockout = s.recovery.lockout ∧ (holdBurner s).recovery.suspend = s.recovery.suspend ∧
    (holdBurner s).tank = s.tank ∧ (holdBurner s).accounts = s.accounts ∧
    (holdBurner s).sampler.counters = s.sampler.counters ∧ (holdBurner s).monitor.reset = s.monitor.reset ∧
    (holdBurner s).alarms.waiting = s.alarms.waiting ∧ (holdBurner s).alarms.sendTimes = s.alarms.sendTimes ∧
    (holdBurner s).mgmt = s.mgmt ∧ (holdBurner s).time = s.time ∧ (holdBurner s).store = s.store := by
  simp only [holdBurner]; (repeat' split) <;> simp

@[simp] theorem hardBurner_frame :
    (hardBurner s).pending = s.pending ∧ (hardBurner s).powered = s.powered ∧ (hardBurner s).free = s.free ∧
    (hardBurner s).settings = s.settings ∧ (hardBurner s).portA.queue = s.portA.queue ∧
    (hardBurner s).portA.counts = s.portA.counts ∧ (hardBurner s).portA.reply = s.portA.reply ∧
    (hardBurner s).portA.alarm = s.portA.alarm ∧ (hardBurner s).portA.occupancy = s.portA.occupancy ∧
    (hardBurner s).portB.queue = s.portB.queue ∧ (hardBurner s).portB.counts = s.portB.counts ∧
    (hardBurner s).portB.reply = s.portB.reply ∧ (hardBurner s).portB.alarm = s.portB.alarm ∧
    (hardBurner s).portB.occupancy = s.portB.occupancy ∧ (hardBurner s).table.entries = s.table.entries ∧
    (hardBurner s).table.inFlight = s.table.inFlight ∧ (hardBurner s).table.forced = s.table.forced ∧
    (hardBurner s).table.pointer = s.table.pointer ∧ (hardBurner s).table.moves = s.table.moves ∧
    (hardBurner s).table.conflicts = s.table.conflicts ∧ (hardBurner s).table.ownHeard = s.table.ownHeard ∧
    (hardBurner s).zones.zones = s.zones.zones ∧ (hardBurner s).zones.units = s.zones.units ∧
    (hardBurner s).zones.valves = s.zones.valves ∧ (hardBurner s).zones.floor = s.zones.floor ∧
    (hardBurner s).zones.demand = s.zones.demand ∧ (hardBurner s).burner.demand = s.burner.demand ∧
    (hardBurner s).burner.run = s.burner.run ∧ (hardBurner s).burner.startTimes = s.burner.startTimes ∧
    (hardBurner s).recovery.state = s.recovery.state ∧ (hardBurner s).recovery.records = s.recovery.records ∧
    (hardBurner s).recovery.resetTimes = s.recovery.resetTimes ∧
    (hardBurner s).recovery.hardLatch = s.recovery.hardLatch ∧
    (hardBurner s).recovery.lockout = s.recovery.lockout ∧ (hardBurner s).recovery.suspend = s.recovery.suspend ∧
    (hardBurner s).tank = s.tank ∧ (hardBurner s).accounts = s.accounts ∧
    (hardBurner s).sampler.counters = s.sampler.counters ∧ (hardBurner s).monitor.reset = s.monitor.reset ∧
    (hardBurner s).alarms.waiting = s.alarms.waiting ∧ (hardBurner s).alarms.sendTimes = s.alarms.sendTimes ∧
    (hardBurner s).mgmt = s.mgmt ∧ (hardBurner s).time = s.time ∧ (hardBurner s).store = s.store := by
  simp only [hardBurner]; (repeat' split) <;> simp

@[simp] theorem faultBurner_frame :
    (faultBurner s).pending = s.pending ∧ (faultBurner s).powered = s.powered ∧ (faultBurner s).free = s.free ∧
    (faultBurner s).settings = s.settings ∧ (faultBurner s).portA.queue = s.portA.queue ∧
    (faultBurner s).portA.counts = s.portA.counts ∧ (faultBurner s).portA.reply = s.portA.reply ∧
    (faultBurner s).portA.alarm = s.portA.alarm ∧ (faultBurner s).portA.occupancy = s.portA.occupancy ∧
    (faultBurner s).portB.queue = s.portB.queue ∧ (faultBurner s).portB.counts = s.portB.counts ∧
    (faultBurner s).portB.reply = s.portB.reply ∧ (faultBurner s).portB.alarm = s.portB.alarm ∧
    (faultBurner s).portB.occupancy = s.portB.occupancy ∧ (faultBurner s).table.entries = s.table.entries ∧
    (faultBurner s).table.inFlight = s.table.inFlight ∧ (faultBurner s).table.forced = s.table.forced ∧
    (faultBurner s).table.pointer = s.table.pointer ∧ (faultBurner s).table.moves = s.table.moves ∧
    (faultBurner s).table.conflicts = s.table.conflicts ∧ (faultBurner s).table.ownHeard = s.table.ownHeard ∧
    (faultBurner s).zones.zones = s.zones.zones ∧ (faultBurner s).zones.units = s.zones.units ∧
    (faultBurner s).zones.valves = s.zones.valves ∧ (faultBurner s).zones.floor = s.zones.floor ∧
    (faultBurner s).zones.demand = s.zones.demand ∧ (faultBurner s).burner.demand = s.burner.demand ∧
    (faultBurner s).burner.run = s.burner.run ∧ (faultBurner s).burner.startTimes = s.burner.startTimes ∧
    (faultBurner s).recovery.state = s.recovery.state ∧ (faultBurner s).recovery.records = s.recovery.records ∧
    (faultBurner s).recovery.resetTimes = s.recovery.resetTimes ∧
    (faultBurner s).recovery.hardLatch = s.recovery.hardLatch ∧
    (faultBurner s).recovery.lockout = s.recovery.lockout ∧ (faultBurner s).recovery.suspend = s.recovery.suspend ∧
    (faultBurner s).tank = s.tank ∧ (faultBurner s).accounts = s.accounts ∧
    (faultBurner s).sampler.counters = s.sampler.counters ∧ (faultBurner s).monitor.reset = s.monitor.reset ∧
    (faultBurner s).alarms.waiting = s.alarms.waiting ∧ (faultBurner s).alarms.sendTimes = s.alarms.sendTimes ∧
    (faultBurner s).mgmt = s.mgmt ∧ (faultBurner s).time = s.time ∧ (faultBurner s).store = s.store := by
  simp only [faultBurner]; (repeat' split) <;> simp

@[simp] theorem releaseBurner_frame :
    (releaseBurner s).pending = s.pending ∧ (releaseBurner s).powered = s.powered ∧
    (releaseBurner s).free = s.free ∧ (releaseBurner s).settings = s.settings ∧
    (releaseBurner s).portA.queue = s.portA.queue ∧ (releaseBurner s).portA.counts = s.portA.counts ∧
    (releaseBurner s).portA.reply = s.portA.reply ∧ (releaseBurner s).portA.alarm = s.portA.alarm ∧
    (releaseBurner s).portA.occupancy = s.portA.occupancy ∧ (releaseBurner s).portB.queue = s.portB.queue ∧
    (releaseBurner s).portB.counts = s.portB.counts ∧ (releaseBurner s).portB.reply = s.portB.reply ∧
    (releaseBurner s).portB.alarm = s.portB.alarm ∧ (releaseBurner s).portB.occupancy = s.portB.occupancy ∧
    (releaseBurner s).table.entries = s.table.entries ∧ (releaseBurner s).table.inFlight = s.table.inFlight ∧
    (releaseBurner s).table.forced = s.table.forced ∧ (releaseBurner s).table.pointer = s.table.pointer ∧
    (releaseBurner s).table.moves = s.table.moves ∧ (releaseBurner s).table.conflicts = s.table.conflicts ∧
    (releaseBurner s).table.ownHeard = s.table.ownHeard ∧ (releaseBurner s).zones.zones = s.zones.zones ∧
    (releaseBurner s).zones.units = s.zones.units ∧ (releaseBurner s).zones.valves = s.zones.valves ∧
    (releaseBurner s).zones.floor = s.zones.floor ∧ (releaseBurner s).zones.demand = s.zones.demand ∧
    (releaseBurner s).burner.demand = s.burner.demand ∧ (releaseBurner s).burner.run = s.burner.run ∧
    (releaseBurner s).recovery.state = s.recovery.state ∧ (releaseBurner s).recovery.records = s.recovery.records ∧
    (releaseBurner s).recovery.resetTimes = s.recovery.resetTimes ∧
    (releaseBurner s).recovery.hardLatch = s.recovery.hardLatch ∧
    (releaseBurner s).recovery.lockout = s.recovery.lockout ∧
    (releaseBurner s).recovery.suspend = s.recovery.suspend ∧ (releaseBurner s).tank = s.tank ∧
    (releaseBurner s).accounts = s.accounts ∧ (releaseBurner s).monitor.reset = s.monitor.reset ∧
    (releaseBurner s).alarms.waiting = s.alarms.waiting ∧ (releaseBurner s).alarms.sendTimes = s.alarms.sendTimes ∧
    (releaseBurner s).mgmt = s.mgmt ∧ (releaseBurner s).time = s.time ∧ (releaseBurner s).store = s.store := by
  simp only [releaseBurner]; (repeat' split) <;> simp

@[simp] theorem unhardBurner_frame :
    (unhardBurner s).pending = s.pending ∧ (unhardBurner s).powered = s.powered ∧ (unhardBurner s).free = s.free ∧
    (unhardBurner s).settings = s.settings ∧ (unhardBurner s).portA.queue = s.portA.queue ∧
    (unhardBurner s).portA.counts = s.portA.counts ∧ (unhardBurner s).portA.reply = s.portA.reply ∧
    (unhardBurner s).portA.alarm = s.portA.alarm ∧ (unhardBurner s).portA.occupancy = s.portA.occupancy ∧
    (unhardBurner s).portB.queue = s.portB.queue ∧ (unhardBurner s).portB.counts = s.portB.counts ∧
    (unhardBurner s).portB.reply = s.portB.reply ∧ (unhardBurner s).portB.alarm = s.portB.alarm ∧
    (unhardBurner s).portB.occupancy = s.portB.occupancy ∧ (unhardBurner s).table.entries = s.table.entries ∧
    (unhardBurner s).table.inFlight = s.table.inFlight ∧ (unhardBurner s).table.forced = s.table.forced ∧
    (unhardBurner s).table.pointer = s.table.pointer ∧ (unhardBurner s).table.moves = s.table.moves ∧
    (unhardBurner s).table.conflicts = s.table.conflicts ∧ (unhardBurner s).table.ownHeard = s.table.ownHeard ∧
    (unhardBurner s).zones.zones = s.zones.zones ∧ (unhardBurner s).zones.units = s.zones.units ∧
    (unhardBurner s).zones.valves = s.zones.valves ∧ (unhardBurner s).zones.floor = s.zones.floor ∧
    (unhardBurner s).zones.demand = s.zones.demand ∧ (unhardBurner s).burner.demand = s.burner.demand ∧
    (unhardBurner s).burner.run = s.burner.run ∧ (unhardBurner s).recovery.state = s.recovery.state ∧
    (unhardBurner s).recovery.records = s.recovery.records ∧
    (unhardBurner s).recovery.resetTimes = s.recovery.resetTimes ∧
    (unhardBurner s).recovery.hardLatch = s.recovery.hardLatch ∧
    (unhardBurner s).recovery.lockout = s.recovery.lockout ∧
    (unhardBurner s).recovery.suspend = s.recovery.suspend ∧ (unhardBurner s).tank = s.tank ∧
    (unhardBurner s).accounts = s.accounts ∧ (unhardBurner s).monitor.reset = s.monitor.reset ∧
    (unhardBurner s).alarms.waiting = s.alarms.waiting ∧ (unhardBurner s).alarms.sendTimes = s.alarms.sendTimes ∧
    (unhardBurner s).mgmt = s.mgmt ∧ (unhardBurner s).time = s.time ∧ (unhardBurner s).store = s.store := by
  simp only [unhardBurner]; (repeat' split) <;> simp

@[simp] theorem leaveFault_frame :
    (leaveFault s).pending = s.pending ∧ (leaveFault s).powered = s.powered ∧ (leaveFault s).free = s.free ∧
    (leaveFault s).settings = s.settings ∧ (leaveFault s).portA.queue = s.portA.queue ∧
    (leaveFault s).portA.counts = s.portA.counts ∧ (leaveFault s).portA.reply = s.portA.reply ∧
    (leaveFault s).portA.alarm = s.portA.alarm ∧ (leaveFault s).portA.occupancy = s.portA.occupancy ∧
    (leaveFault s).portB.queue = s.portB.queue ∧ (leaveFault s).portB.counts = s.portB.counts ∧
    (leaveFault s).portB.reply = s.portB.reply ∧ (leaveFault s).portB.alarm = s.portB.alarm ∧
    (leaveFault s).portB.occupancy = s.portB.occupancy ∧ (leaveFault s).table.entries = s.table.entries ∧
    (leaveFault s).table.inFlight = s.table.inFlight ∧ (leaveFault s).table.forced = s.table.forced ∧
    (leaveFault s).table.pointer = s.table.pointer ∧ (leaveFault s).table.moves = s.table.moves ∧
    (leaveFault s).table.conflicts = s.table.conflicts ∧ (leaveFault s).table.ownHeard = s.table.ownHeard ∧
    (leaveFault s).zones.zones = s.zones.zones ∧ (leaveFault s).zones.units = s.zones.units ∧
    (leaveFault s).zones.valves = s.zones.valves ∧ (leaveFault s).zones.floor = s.zones.floor ∧
    (leaveFault s).zones.demand = s.zones.demand ∧ (leaveFault s).burner.demand = s.burner.demand ∧
    (leaveFault s).burner.run = s.burner.run ∧ (leaveFault s).recovery.state = s.recovery.state ∧
    (leaveFault s).recovery.records = s.recovery.records ∧
    (leaveFault s).recovery.resetTimes = s.recovery.resetTimes ∧
    (leaveFault s).recovery.hardLatch = s.recovery.hardLatch ∧
    (leaveFault s).recovery.lockout = s.recovery.lockout ∧ (leaveFault s).recovery.suspend = s.recovery.suspend ∧
    (leaveFault s).tank = s.tank ∧ (leaveFault s).accounts = s.accounts ∧
    (leaveFault s).monitor.reset = s.monitor.reset ∧ (leaveFault s).alarms.waiting = s.alarms.waiting ∧
    (leaveFault s).alarms.sendTimes = s.alarms.sendTimes ∧ (leaveFault s).mgmt = s.mgmt ∧
    (leaveFault s).time = s.time ∧ (leaveFault s).store = s.store := by
  simp only [leaveFault]; (repeat' split) <;> simp

end Sys2Proof.Machine
end

