-- ==== Sys2Proof/Laws/FramesZones.lean ====
section
/-! SUPPORT. What each shared operation of the zone unit leaves as it stands: everything but
what the lemma does not name. -/

namespace Sys2Proof.Machine

variable (s : State)

/-- A list of the same operation leaves what each one leaves. -/
theorem forEach_keeps {ι σ β : Type} (g : σ → β) (f : ι → σ → σ) (h : ∀ i s, g (f i s) = g s) (l : List ι) (s : σ) :
    g (forEach l f s) = g s := by
  induction l generalizing s with
  | nil => rfl
  | cons i l ih => exact (ih (f i s)).trans (h i s)

/-- A list of the same operation keeps what each one keeps. -/
theorem forEach_preserves {ι σ : Type} (P : σ → Prop) (f : ι → σ → σ) (h : ∀ i s, P s → P (f i s)) (l : List ι) (s : σ)
    (hs : P s) : P (forEach l f s) := by
  induction l generalizing s with
  | nil => exact hs
  | cons i l ih => exact ih (f i s) (h i s hs)

@[simp] theorem reevalZone_frame (c : ReevalCause) (z : ZoneId) :
    (reevalZone c z s).pending = s.pending ∧ (reevalZone c z s).powered = s.powered ∧
    (reevalZone c z s).free = s.free ∧ (reevalZone c z s).settings = s.settings ∧
    (reevalZone c z s).portA = s.portA ∧ (reevalZone c z s).portB = s.portB ∧
    (reevalZone c z s).ownSeq = s.ownSeq ∧ (reevalZone c z s).table = s.table ∧
    (reevalZone c z s).zones.units = s.zones.units ∧ (reevalZone c z s).zones.valves = s.zones.valves ∧
    (reevalZone c z s).zones.floor = s.zones.floor ∧ (reevalZone c z s).zones.demand = s.zones.demand ∧
    (reevalZone c z s).burner = s.burner ∧ (reevalZone c z s).recovery = s.recovery ∧
    (reevalZone c z s).tank = s.tank ∧ (reevalZone c z s).accounts = s.accounts ∧
    (reevalZone c z s).sampler = s.sampler ∧ (reevalZone c z s).monitor = s.monitor ∧
    (reevalZone c z s).alarms.sendTimes = s.alarms.sendTimes ∧ (reevalZone c z s).mgmt = s.mgmt ∧
    (reevalZone c z s).time = s.time ∧ (reevalZone c z s).store = s.store := by
  simp only [reevalZone]; (repeat' split) <;> simp [State.setZone]

@[simp] theorem recomputePriority_frame :
    (recomputePriority s).pending = s.pending ∧ (recomputePriority s).powered = s.powered ∧
    (recomputePriority s).free = s.free ∧ (recomputePriority s).settings = s.settings ∧
    (recomputePriority s).portA = s.portA ∧ (recomputePriority s).portB = s.portB ∧
    (recomputePriority s).ownSeq = s.ownSeq ∧ (recomputePriority s).table = s.table ∧
    (recomputePriority s).zones.units = s.zones.units ∧ (recomputePriority s).zones.valves = s.zones.valves ∧
    (recomputePriority s).zones.floor = s.zones.floor ∧ (recomputePriority s).zones.demand = s.zones.demand ∧
    (recomputePriority s).burner = s.burner ∧ (recomputePriority s).recovery = s.recovery ∧
    (recomputePriority s).tank = s.tank ∧ (recomputePriority s).accounts = s.accounts ∧
    (recomputePriority s).sampler = s.sampler ∧ (recomputePriority s).monitor = s.monitor ∧
    (recomputePriority s).alarms = s.alarms ∧ (recomputePriority s).mgmt = s.mgmt ∧
    (recomputePriority s).time = s.time ∧ (recomputePriority s).store = s.store := by
  simp [recomputePriority, State.setZones]

@[simp] theorem recomputeDeferral_frame :
    (recomputeDeferral s).pending = s.pending ∧ (recomputeDeferral s).powered = s.powered ∧
    (recomputeDeferral s).free = s.free ∧ (recomputeDeferral s).settings = s.settings ∧
    (recomputeDeferral s).portA = s.portA ∧ (recomputeDeferral s).portB = s.portB ∧
    (recomputeDeferral s).ownSeq = s.ownSeq ∧ (recomputeDeferral s).table = s.table ∧
    (recomputeDeferral s).zones.units = s.zones.units ∧ (recomputeDeferral s).zones.valves = s.zones.valves ∧
    (recomputeDeferral s).zones.floor = s.zones.floor ∧ (recomputeDeferral s).zones.demand = s.zones.demand ∧
    (recomputeDeferral s).burner = s.burner ∧ (recomputeDeferral s).recovery = s.recovery ∧
    (recomputeDeferral s).tank = s.tank ∧ (recomputeDeferral s).accounts = s.accounts ∧
    (recomputeDeferral s).sampler = s.sampler ∧ (recomputeDeferral s).monitor = s.monitor ∧
    (recomputeDeferral s).alarms = s.alarms ∧ (recomputeDeferral s).mgmt = s.mgmt ∧
    (recomputeDeferral s).time = s.time ∧ (recomputeDeferral s).store = s.store := by
  simp [recomputeDeferral, State.setZones]

@[simp] theorem recomputeDrives_frame :
    (recomputeDrives s).pending = s.pending ∧ (recomputeDrives s).powered = s.powered ∧
    (recomputeDrives s).free = s.free ∧ (recomputeDrives s).settings = s.settings ∧
    (recomputeDrives s).portA = s.portA ∧ (recomputeDrives s).portB = s.portB ∧
    (recomputeDrives s).ownSeq = s.ownSeq ∧ (recomputeDrives s).table = s.table ∧
    (recomputeDrives s).zones.zones = s.zones.zones ∧ (recomputeDrives s).zones.units = s.zones.units ∧
    (recomputeDrives s).zones.floor = s.zones.floor ∧ (recomputeDrives s).zones.demand = s.zones.demand ∧
    (recomputeDrives s).burner = s.burner ∧ (recomputeDrives s).recovery = s.recovery ∧
    (recomputeDrives s).tank = s.tank ∧ (recomputeDrives s).accounts = s.accounts ∧
    (recomputeDrives s).sampler = s.sampler ∧ (recomputeDrives s).monitor = s.monitor ∧
    (recomputeDrives s).alarms = s.alarms ∧ (recomputeDrives s).mgmt = s.mgmt ∧ (recomputeDrives s).time = s.time ∧
    (recomputeDrives s).store = s.store := by
  simp only [recomputeDrives]; (repeat' split) <;> simp

@[simp] theorem stick_frame (o : OutputId) (b : Bool) :
    (stick o b s).pending = s.pending ∧ (stick o b s).powered = s.powered ∧ (stick o b s).free = s.free ∧
    (stick o b s).settings = s.settings ∧ (stick o b s).portA = s.portA ∧ (stick o b s).portB = s.portB ∧
    (stick o b s).ownSeq = s.ownSeq ∧ (stick o b s).table = s.table ∧ (stick o b s).zones.zones = s.zones.zones ∧
    (stick o b s).zones.units = s.zones.units ∧ (stick o b s).zones.floor = s.zones.floor ∧
    (stick o b s).zones.demand = s.zones.demand ∧ (stick o b s).burner = s.burner ∧
    (stick o b s).recovery = s.recovery ∧ (stick o b s).tank = s.tank ∧ (stick o b s).accounts = s.accounts ∧
    (stick o b s).sampler = s.sampler ∧ (stick o b s).monitor = s.monitor ∧
    (stick o b s).alarms.sendTimes = s.alarms.sendTimes ∧ (stick o b s).mgmt = s.mgmt ∧
    (stick o b s).time = s.time ∧ (stick o b s).store = s.store := by
  simp [stick, State.setValve]

@[simp] theorem recomputeDemand_frame :
    (recomputeDemand s).pending = s.pending ∧ (recomputeDemand s).powered = s.powered ∧
    (recomputeDemand s).free = s.free ∧ (recomputeDemand s).settings = s.settings ∧
    (recomputeDemand s).portA.queue = s.portA.queue ∧ (recomputeDemand s).portA.counts = s.portA.counts ∧
    (recomputeDemand s).portA.reply = s.portA.reply ∧ (recomputeDemand s).portA.alarm = s.portA.alarm ∧
    (recomputeDemand s).portA.occupancy = s.portA.occupancy ∧ (recomputeDemand s).portB.queue = s.portB.queue ∧
    (recomputeDemand s).portB.counts = s.portB.counts ∧ (recomputeDemand s).portB.reply = s.portB.reply ∧
    (recomputeDemand s).portB.alarm = s.portB.alarm ∧ (recomputeDemand s).portB.occupancy = s.portB.occupancy ∧
    (recomputeDemand s).table.entries = s.table.entries ∧ (recomputeDemand s).table.inFlight = s.table.inFlight ∧
    (recomputeDemand s).table.forced = s.table.forced ∧ (recomputeDemand s).table.pointer = s.table.pointer ∧
    (recomputeDemand s).table.moves = s.table.moves ∧ (recomputeDemand s).table.conflicts = s.table.conflicts ∧
    (recomputeDemand s).table.ownHeard = s.table.ownHeard ∧ (recomputeDemand s).zones.zones = s.zones.zones ∧
    (recomputeDemand s).zones.units = s.zones.units ∧ (recomputeDemand s).zones.valves = s.zones.valves ∧
    (recomputeDemand s).zones.floor = s.zones.floor ∧ (recomputeDemand s).burner.run = s.burner.run ∧
    (recomputeDemand s).recovery.state = s.recovery.state ∧
    (recomputeDemand s).recovery.records = s.recovery.records ∧
    (recomputeDemand s).recovery.resetTimes = s.recovery.resetTimes ∧
    (recomputeDemand s).recovery.hardLatch = s.recovery.hardLatch ∧
    (recomputeDemand s).recovery.lockout = s.recovery.lockout ∧
    (recomputeDemand s).recovery.suspend = s.recovery.suspend ∧ (recomputeDemand s).tank = s.tank ∧
    (recomputeDemand s).accounts = s.accounts ∧ (recomputeDemand s).monitor.reset = s.monitor.reset ∧
    (recomputeDemand s).alarms.waiting = s.alarms.waiting ∧
    (recomputeDemand s).alarms.sendTimes = s.alarms.sendTimes ∧ (recomputeDemand s).mgmt = s.mgmt ∧
    (recomputeDemand s).time = s.time ∧ (recomputeDemand s).store = s.store := by
  simp only [recomputeDemand]; (repeat' split) <;> simp

@[simp] theorem settle_frame :
    (settle s).pending = s.pending ∧ (settle s).powered = s.powered ∧ (settle s).free = s.free ∧
    (settle s).settings = s.settings ∧ (settle s).portA.queue = s.portA.queue ∧
    (settle s).portA.counts = s.portA.counts ∧ (settle s).portA.reply = s.portA.reply ∧
    (settle s).portA.alarm = s.portA.alarm ∧ (settle s).portA.occupancy = s.portA.occupancy ∧
    (settle s).portB.queue = s.portB.queue ∧ (settle s).portB.counts = s.portB.counts ∧
    (settle s).portB.reply = s.portB.reply ∧ (settle s).portB.alarm = s.portB.alarm ∧
    (settle s).portB.occupancy = s.portB.occupancy ∧ (settle s).table.entries = s.table.entries ∧
    (settle s).table.inFlight = s.table.inFlight ∧ (settle s).table.forced = s.table.forced ∧
    (settle s).table.pointer = s.table.pointer ∧ (settle s).table.moves = s.table.moves ∧
    (settle s).table.conflicts = s.table.conflicts ∧ (settle s).table.ownHeard = s.table.ownHeard ∧
    (settle s).zones.units = s.zones.units ∧ (settle s).zones.floor = s.zones.floor ∧
    (settle s).burner.run = s.burner.run ∧ (settle s).recovery.state = s.recovery.state ∧
    (settle s).recovery.records = s.recovery.records ∧ (settle s).recovery.resetTimes = s.recovery.resetTimes ∧
    (settle s).recovery.hardLatch = s.recovery.hardLatch ∧ (settle s).recovery.lockout = s.recovery.lockout ∧
    (settle s).recovery.suspend = s.recovery.suspend ∧ (settle s).tank = s.tank ∧
    (settle s).accounts = s.accounts ∧ (settle s).monitor.reset = s.monitor.reset ∧
    (settle s).alarms.waiting = s.alarms.waiting ∧ (settle s).alarms.sendTimes = s.alarms.sendTimes ∧
    (settle s).mgmt = s.mgmt ∧ (settle s).time = s.time ∧ (settle s).store = s.store := by
  simp only [settle]; (repeat' split) <;> simp

@[simp] theorem reevalWhere_frame (c : ReevalCause) (p : ZoneId → Bool) :
    (reevalWhere c p s).pending = s.pending ∧ (reevalWhere c p s).powered = s.powered ∧
    (reevalWhere c p s).free = s.free ∧ (reevalWhere c p s).settings = s.settings ∧
    (reevalWhere c p s).portA.queue = s.portA.queue ∧ (reevalWhere c p s).portA.counts = s.portA.counts ∧
    (reevalWhere c p s).portA.reply = s.portA.reply ∧ (reevalWhere c p s).portA.alarm = s.portA.alarm ∧
    (reevalWhere c p s).portA.occupancy = s.portA.occupancy ∧ (reevalWhere c p s).portB.queue = s.portB.queue ∧
    (reevalWhere c p s).portB.counts = s.portB.counts ∧ (reevalWhere c p s).portB.reply = s.portB.reply ∧
    (reevalWhere c p s).portB.alarm = s.portB.alarm ∧ (reevalWhere c p s).portB.occupancy = s.portB.occupancy ∧
    (reevalWhere c p s).table.entries = s.table.entries ∧ (reevalWhere c p s).table.inFlight = s.table.inFlight ∧
    (reevalWhere c p s).table.forced = s.table.forced ∧ (reevalWhere c p s).table.pointer = s.table.pointer ∧
    (reevalWhere c p s).table.moves = s.table.moves ∧ (reevalWhere c p s).table.conflicts = s.table.conflicts ∧
    (reevalWhere c p s).table.ownHeard = s.table.ownHeard ∧ (reevalWhere c p s).zones.units = s.zones.units ∧
    (reevalWhere c p s).zones.floor = s.zones.floor ∧ (reevalWhere c p s).burner.run = s.burner.run ∧
    (reevalWhere c p s).recovery.state = s.recovery.state ∧
    (reevalWhere c p s).recovery.records = s.recovery.records ∧
    (reevalWhere c p s).recovery.resetTimes = s.recovery.resetTimes ∧
    (reevalWhere c p s).recovery.hardLatch = s.recovery.hardLatch ∧
    (reevalWhere c p s).recovery.lockout = s.recovery.lockout ∧
    (reevalWhere c p s).recovery.suspend = s.recovery.suspend ∧ (reevalWhere c p s).tank = s.tank ∧
    (reevalWhere c p s).accounts = s.accounts ∧ (reevalWhere c p s).monitor.reset = s.monitor.reset ∧
    (reevalWhere c p s).alarms.sendTimes = s.alarms.sendTimes ∧ (reevalWhere c p s).mgmt = s.mgmt ∧
    (reevalWhere c p s).time = s.time ∧ (reevalWhere c p s).store = s.store := by
  simp only [reevalWhere, settle_frame]
  exact ⟨forEach_keeps (·.pending) (reevalZone c) (by simp) _ s,
    forEach_keeps (·.powered) (reevalZone c) (by simp) _ s,
    forEach_keeps (·.free) (reevalZone c) (by simp) _ s,
    forEach_keeps (·.settings) (reevalZone c) (by simp) _ s,
    forEach_keeps (·.portA.queue) (reevalZone c) (by simp) _ s,
    forEach_keeps (·.portA.counts) (reevalZone c) (by simp) _ s,
    forEach_keeps (·.portA.reply) (reevalZone c) (by simp) _ s,
    forEach_keeps (·.portA.alarm) (reevalZone c) (by simp) _ s,
    forEach_keeps (·.portA.occupancy) (reevalZone c) (by simp) _ s,
    forEach_keeps (·.portB.queue) (reevalZone c) (by simp) _ s,
    forEach_keeps (·.portB.counts) (reevalZone c) (by simp) _ s,
    forEach_keeps (·.portB.reply) (reevalZone c) (by simp) _ s,
    forEach_keeps (·.portB.alarm) (reevalZone c) (by simp) _ s,
    forEach_keeps (·.portB.occupancy) (reevalZone c) (by simp) _ s,
    forEach_keeps (·.table.entries) (reevalZone c) (by simp) _ s,
    forEach_keeps (·.table.inFlight) (reevalZone c) (by simp) _ s,
    forEach_keeps (·.table.forced) (reevalZone c) (by simp) _ s,
    forEach_keeps (·.table.pointer) (reevalZone c) (by simp) _ s,
    forEach_keeps (·.table.moves) (reevalZone c) (by simp) _ s,
    forEach_keeps (·.table.conflicts) (reevalZone c) (by simp) _ s,
    forEach_keeps (·.table.ownHeard) (reevalZone c) (by simp) _ s,
    forEach_keeps (·.zones.units) (reevalZone c) (by simp) _ s,
    forEach_keeps (·.zones.floor) (reevalZone c) (by simp) _ s,
    forEach_keeps (·.burner.run) (reevalZone c) (by simp) _ s,
    forEach_keeps (·.recovery.state) (reevalZone c) (by simp) _ s,
    forEach_keeps (·.recovery.records) (reevalZone c) (by simp) _ s,
    forEach_keeps (·.recovery.resetTimes) (reevalZone c) (by simp) _ s,
    forEach_keeps (·.recovery.hardLatch) (reevalZone c) (by simp) _ s,
    forEach_keeps (·.recovery.lockout) (reevalZone c) (by simp) _ s,
    forEach_keeps (·.recovery.suspend) (reevalZone c) (by simp) _ s,
    forEach_keeps (·.tank) (reevalZone c) (by simp) _ s,
    forEach_keeps (·.accounts) (reevalZone c) (by simp) _ s,
    forEach_keeps (·.monitor.reset) (reevalZone c) (by simp) _ s,
    forEach_keeps (·.alarms.sendTimes) (reevalZone c) (by simp) _ s,
    forEach_keeps (·.mgmt) (reevalZone c) (by simp) _ s,
    forEach_keeps (·.time) (reevalZone c) (by simp) _ s,
    forEach_keeps (·.store) (reevalZone c) (by simp) _ s⟩

@[simp] theorem reevalBinding_frame (c : ReevalCause) (a : Addr) :
    (reevalBinding c a s).pending = s.pending ∧ (reevalBinding c a s).powered = s.powered ∧
    (reevalBinding c a s).free = s.free ∧ (reevalBinding c a s).settings = s.settings ∧
    (reevalBinding c a s).portA.queue = s.portA.queue ∧ (reevalBinding c a s).portA.counts = s.portA.counts ∧
    (reevalBinding c a s).portA.reply = s.portA.reply ∧ (reevalBinding c a s).portA.alarm = s.portA.alarm ∧
    (reevalBinding c a s).portA.occupancy = s.portA.occupancy ∧ (reevalBinding c a s).portB.queue = s.portB.queue ∧
    (reevalBinding c a s).portB.counts = s.portB.counts ∧ (reevalBinding c a s).portB.reply = s.portB.reply ∧
    (reevalBinding c a s).portB.alarm = s.portB.alarm ∧ (reevalBinding c a s).portB.occupancy = s.portB.occupancy ∧
    (reevalBinding c a s).table.entries = s.table.entries ∧
    (reevalBinding c a s).table.inFlight = s.table.inFlight ∧ (reevalBinding c a s).table.forced = s.table.forced ∧
    (reevalBinding c a s).table.pointer = s.table.pointer ∧ (reevalBinding c a s).table.moves = s.table.moves ∧
    (reevalBinding c a s).table.conflicts = s.table.conflicts ∧
    (reevalBinding c a s).table.ownHeard = s.table.ownHeard ∧ (reevalBinding c a s).zones.units = s.zones.units ∧
    (reevalBinding c a s).zones.floor = s.zones.floor ∧ (reevalBinding c a s).burner.run = s.burner.run ∧
    (reevalBinding c a s).recovery.state = s.recovery.state ∧
    (reevalBinding c a s).recovery.records = s.recovery.records ∧
    (reevalBinding c a s).recovery.resetTimes = s.recovery.resetTimes ∧
    (reevalBinding c a s).recovery.hardLatch = s.recovery.hardLatch ∧
    (reevalBinding c a s).recovery.lockout = s.recovery.lockout ∧
    (reevalBinding c a s).recovery.suspend = s.recovery.suspend ∧ (reevalBinding c a s).tank = s.tank ∧
    (reevalBinding c a s).accounts = s.accounts ∧ (reevalBinding c a s).monitor.reset = s.monitor.reset ∧
    (reevalBinding c a s).alarms.sendTimes = s.alarms.sendTimes ∧ (reevalBinding c a s).mgmt = s.mgmt ∧
    (reevalBinding c a s).time = s.time ∧ (reevalBinding c a s).store = s.store := by
  simp only [reevalBinding]; (repeat' split) <;> simp

@[simp] theorem reacceptAll_frame :
    (reacceptAll s).pending = s.pending ∧ (reacceptAll s).powered = s.powered ∧ (reacceptAll s).free = s.free ∧
    (reacceptAll s).settings = s.settings ∧ (reacceptAll s).portA = s.portA ∧ (reacceptAll s).portB = s.portB ∧
    (reacceptAll s).ownSeq = s.ownSeq ∧ (reacceptAll s).table = s.table ∧
    (reacceptAll s).zones.units = s.zones.units ∧ (reacceptAll s).zones.valves = s.zones.valves ∧
    (reacceptAll s).zones.floor = s.zones.floor ∧ (reacceptAll s).zones.demand = s.zones.demand ∧
    (reacceptAll s).burner = s.burner ∧ (reacceptAll s).recovery = s.recovery ∧ (reacceptAll s).tank = s.tank ∧
    (reacceptAll s).accounts = s.accounts ∧ (reacceptAll s).sampler = s.sampler ∧
    (reacceptAll s).monitor = s.monitor ∧ (reacceptAll s).alarms = s.alarms ∧ (reacceptAll s).mgmt = s.mgmt ∧
    (reacceptAll s).time = s.time ∧ (reacceptAll s).store = s.store := by
  simp [reacceptAll, State.setZones]

@[simp] theorem recomputeFloor_frame :
    (recomputeFloor s).pending = s.pending ∧ (recomputeFloor s).powered = s.powered ∧
    (recomputeFloor s).free = s.free ∧ (recomputeFloor s).settings = s.settings ∧
    (recomputeFloor s).portA.queue = s.portA.queue ∧ (recomputeFloor s).portA.counts = s.portA.counts ∧
    (recomputeFloor s).portA.reply = s.portA.reply ∧ (recomputeFloor s).portA.alarm = s.portA.alarm ∧
    (recomputeFloor s).portA.occupancy = s.portA.occupancy ∧ (recomputeFloor s).portB.queue = s.portB.queue ∧
    (recomputeFloor s).portB.counts = s.portB.counts ∧ (recomputeFloor s).portB.reply = s.portB.reply ∧
    (recomputeFloor s).portB.alarm = s.portB.alarm ∧ (recomputeFloor s).portB.occupancy = s.portB.occupancy ∧
    (recomputeFloor s).table.entries = s.table.entries ∧ (recomputeFloor s).table.inFlight = s.table.inFlight ∧
    (recomputeFloor s).table.forced = s.table.forced ∧ (recomputeFloor s).table.pointer = s.table.pointer ∧
    (recomputeFloor s).table.moves = s.table.moves ∧ (recomputeFloor s).table.conflicts = s.table.conflicts ∧
    (recomputeFloor s).table.ownHeard = s.table.ownHeard ∧ (recomputeFloor s).zones.units = s.zones.units ∧
    (recomputeFloor s).burner.run = s.burner.run ∧ (recomputeFloor s).recovery.state = s.recovery.state ∧
    (recomputeFloor s).recovery.records = s.recovery.records ∧
    (recomputeFloor s).recovery.resetTimes = s.recovery.resetTimes ∧
    (recomputeFloor s).recovery.hardLatch = s.recovery.hardLatch ∧
    (recomputeFloor s).recovery.lockout = s.recovery.lockout ∧
    (recomputeFloor s).recovery.suspend = s.recovery.suspend ∧ (recomputeFloor s).tank = s.tank ∧
    (recomputeFloor s).accounts = s.accounts ∧ (recomputeFloor s).monitor.reset = s.monitor.reset ∧
    (recomputeFloor s).alarms.waiting = s.alarms.waiting ∧
    (recomputeFloor s).alarms.sendTimes = s.alarms.sendTimes ∧ (recomputeFloor s).mgmt = s.mgmt ∧
    (recomputeFloor s).time = s.time ∧ (recomputeFloor s).store = s.store := by
  simp only [recomputeFloor]; (repeat' split) <;> simp

@[simp] theorem endPriority_frame (z : ZoneId) :
    (endPriority z s).pending = s.pending ∧ (endPriority z s).powered = s.powered ∧
    (endPriority z s).free = s.free ∧ (endPriority z s).settings = s.settings ∧ (endPriority z s).portA = s.portA ∧
    (endPriority z s).portB = s.portB ∧ (endPriority z s).ownSeq = s.ownSeq ∧ (endPriority z s).table = s.table ∧
    (endPriority z s).zones.units = s.zones.units ∧ (endPriority z s).zones.valves = s.zones.valves ∧
    (endPriority z s).zones.floor = s.zones.floor ∧ (endPriority z s).zones.demand = s.zones.demand ∧
    (endPriority z s).burner = s.burner ∧ (endPriority z s).recovery = s.recovery ∧
    (endPriority z s).tank = s.tank ∧ (endPriority z s).accounts = s.accounts ∧
    (endPriority z s).sampler = s.sampler ∧ (endPriority z s).monitor = s.monitor ∧
    (endPriority z s).alarms = s.alarms ∧ (endPriority z s).mgmt = s.mgmt ∧ (endPriority z s).time = s.time ∧
    (endPriority z s).store = s.store := by
  simp [endPriority, State.setZone]

@[simp] theorem writeZone_frame (f : ZoneSettings → ZoneSettings) (z : ZoneId) :
    (writeZone f z s).pending = s.pending ∧ (writeZone f z s).powered = s.powered ∧
    (writeZone f z s).free = s.free ∧ (writeZone f z s).portA.queue = s.portA.queue ∧
    (writeZone f z s).portA.counts = s.portA.counts ∧ (writeZone f z s).portA.reply = s.portA.reply ∧
    (writeZone f z s).portA.alarm = s.portA.alarm ∧ (writeZone f z s).portA.occupancy = s.portA.occupancy ∧
    (writeZone f z s).portB.queue = s.portB.queue ∧ (writeZone f z s).portB.counts = s.portB.counts ∧
    (writeZone f z s).portB.reply = s.portB.reply ∧ (writeZone f z s).portB.alarm = s.portB.alarm ∧
    (writeZone f z s).portB.occupancy = s.portB.occupancy ∧ (writeZone f z s).table.entries = s.table.entries ∧
    (writeZone f z s).table.inFlight = s.table.inFlight ∧ (writeZone f z s).table.forced = s.table.forced ∧
    (writeZone f z s).table.pointer = s.table.pointer ∧ (writeZone f z s).table.moves = s.table.moves ∧
    (writeZone f z s).table.conflicts = s.table.conflicts ∧ (writeZone f z s).table.ownHeard = s.table.ownHeard ∧
    (writeZone f z s).zones.units = s.zones.units ∧ (writeZone f z s).zones.floor = s.zones.floor ∧
    (writeZone f z s).burner.run = s.burner.run ∧ (writeZone f z s).recovery.state = s.recovery.state ∧
    (writeZone f z s).recovery.records = s.recovery.records ∧
    (writeZone f z s).recovery.resetTimes = s.recovery.resetTimes ∧
    (writeZone f z s).recovery.hardLatch = s.recovery.hardLatch ∧
    (writeZone f z s).recovery.lockout = s.recovery.lockout ∧
    (writeZone f z s).recovery.suspend = s.recovery.suspend ∧ (writeZone f z s).tank = s.tank ∧
    (writeZone f z s).accounts = s.accounts ∧ (writeZone f z s).monitor.reset = s.monitor.reset ∧
    (writeZone f z s).alarms.sendTimes = s.alarms.sendTimes ∧ (writeZone f z s).mgmt = s.mgmt ∧
    (writeZone f z s).time = s.time ∧ (writeZone f z s).store = s.store := by
  simp only [writeZone]; (repeat' split) <;> simp

@[simp] theorem writePrioritySetting_frame (f : ZoneSettings → ZoneSettings) (z : ZoneId) :
    (writePrioritySetting f z s).pending = s.pending ∧ (writePrioritySetting f z s).powered = s.powered ∧
    (writePrioritySetting f z s).free = s.free ∧ (writePrioritySetting f z s).portA.queue = s.portA.queue ∧
    (writePrioritySetting f z s).portA.counts = s.portA.counts ∧
    (writePrioritySetting f z s).portA.reply = s.portA.reply ∧
    (writePrioritySetting f z s).portA.alarm = s.portA.alarm ∧
    (writePrioritySetting f z s).portA.occupancy = s.portA.occupancy ∧
    (writePrioritySetting f z s).portB.queue = s.portB.queue ∧
    (writePrioritySetting f z s).portB.counts = s.portB.counts ∧
    (writePrioritySetting f z s).portB.reply = s.portB.reply ∧
    (writePrioritySetting f z s).portB.alarm = s.portB.alarm ∧
    (writePrioritySetting f z s).portB.occupancy = s.portB.occupancy ∧
    (writePrioritySetting f z s).table.entries = s.table.entries ∧
    (writePrioritySetting f z s).table.inFlight = s.table.inFlight ∧
    (writePrioritySetting f z s).table.forced = s.table.forced ∧
    (writePrioritySetting f z s).table.pointer = s.table.pointer ∧
    (writePrioritySetting f z s).table.moves = s.table.moves ∧
    (writePrioritySetting f z s).table.conflicts = s.table.conflicts ∧
    (writePrioritySetting f z s).table.ownHeard = s.table.ownHeard ∧
    (writePrioritySetting f z s).zones.units = s.zones.units ∧
    (writePrioritySetting f z s).zones.floor = s.zones.floor ∧
    (writePrioritySetting f z s).burner.run = s.burner.run ∧
    (writePrioritySetting f z s).recovery.state = s.recovery.state ∧
    (writePrioritySetting f z s).recovery.records = s.recovery.records ∧
    (writePrioritySetting f z s).recovery.resetTimes = s.recovery.resetTimes ∧
    (writePrioritySetting f z s).recovery.hardLatch = s.recovery.hardLatch ∧
    (writePrioritySetting f z s).recovery.lockout = s.recovery.lockout ∧
    (writePrioritySetting f z s).recovery.suspend = s.recovery.suspend ∧
    (writePrioritySetting f z s).tank = s.tank ∧ (writePrioritySetting f z s).accounts = s.accounts ∧
    (writePrioritySetting f z s).monitor.reset = s.monitor.reset ∧
    (writePrioritySetting f z s).alarms.sendTimes = s.alarms.sendTimes ∧
    (writePrioritySetting f z s).mgmt = s.mgmt ∧ (writePrioritySetting f z s).time = s.time ∧
    (writePrioritySetting f z s).store = s.store := by
  simp only [writePrioritySetting]; (repeat' split) <;> simp

@[simp] theorem enableZone_frame (z : ZoneId) :
    (enableZone z s).pending = s.pending ∧ (enableZone z s).powered = s.powered ∧ (enableZone z s).free = s.free ∧
    (enableZone z s).portA = s.portA ∧ (enableZone z s).portB = s.portB ∧ (enableZone z s).ownSeq = s.ownSeq ∧
    (enableZone z s).table = s.table ∧ (enableZone z s).zones.units = s.zones.units ∧
    (enableZone z s).zones.valves = s.zones.valves ∧ (enableZone z s).zones.floor = s.zones.floor ∧
    (enableZone z s).zones.demand = s.zones.demand ∧ (enableZone z s).burner = s.burner ∧
    (enableZone z s).recovery = s.recovery ∧ (enableZone z s).tank = s.tank ∧
    (enableZone z s).accounts = s.accounts ∧ (enableZone z s).sampler = s.sampler ∧
    (enableZone z s).monitor = s.monitor ∧ (enableZone z s).alarms.sendTimes = s.alarms.sendTimes ∧
    (enableZone z s).mgmt = s.mgmt ∧ (enableZone z s).time = s.time ∧ (enableZone z s).store = s.store := by
  simp [enableZone, State.setZone, State.setZoneCfg]

@[simp] theorem disableZone_frame (z : ZoneId) :
    (disableZone z s).pending = s.pending ∧ (disableZone z s).powered = s.powered ∧
    (disableZone z s).free = s.free ∧ (disableZone z s).portA = s.portA ∧ (disableZone z s).portB = s.portB ∧
    (disableZone z s).ownSeq = s.ownSeq ∧ (disableZone z s).table = s.table ∧
    (disableZone z s).zones.units = s.zones.units ∧ (disableZone z s).zones.valves = s.zones.valves ∧
    (disableZone z s).zones.floor = s.zones.floor ∧ (disableZone z s).zones.demand = s.zones.demand ∧
    (disableZone z s).burner = s.burner ∧ (disableZone z s).recovery = s.recovery ∧
    (disableZone z s).tank = s.tank ∧ (disableZone z s).accounts = s.accounts ∧
    (disableZone z s).sampler = s.sampler ∧ (disableZone z s).monitor = s.monitor ∧
    (disableZone z s).alarms = s.alarms ∧ (disableZone z s).mgmt = s.mgmt ∧ (disableZone z s).time = s.time ∧
    (disableZone z s).store = s.store := by
  simp [disableZone, State.setZone, State.setZoneCfg]

@[simp] theorem writeEnable_frame (b : Bool) (z : ZoneId) :
    (writeEnable b z s).pending = s.pending ∧ (writeEnable b z s).powered = s.powered ∧
    (writeEnable b z s).free = s.free ∧ (writeEnable b z s).portA.queue = s.portA.queue ∧
    (writeEnable b z s).portA.counts = s.portA.counts ∧ (writeEnable b z s).portA.reply = s.portA.reply ∧
    (writeEnable b z s).portA.alarm = s.portA.alarm ∧ (writeEnable b z s).portA.occupancy = s.portA.occupancy ∧
    (writeEnable b z s).portB.queue = s.portB.queue ∧ (writeEnable b z s).portB.counts = s.portB.counts ∧
    (writeEnable b z s).portB.reply = s.portB.reply ∧ (writeEnable b z s).portB.alarm = s.portB.alarm ∧
    (writeEnable b z s).portB.occupancy = s.portB.occupancy ∧ (writeEnable b z s).table.entries = s.table.entries ∧
    (writeEnable b z s).table.inFlight = s.table.inFlight ∧ (writeEnable b z s).table.forced = s.table.forced ∧
    (writeEnable b z s).table.pointer = s.table.pointer ∧ (writeEnable b z s).table.moves = s.table.moves ∧
    (writeEnable b z s).table.conflicts = s.table.conflicts ∧
    (writeEnable b z s).table.ownHeard = s.table.ownHeard ∧ (writeEnable b z s).zones.units = s.zones.units ∧
    (writeEnable b z s).zones.floor = s.zones.floor ∧ (writeEnable b z s).burner.run = s.burner.run ∧
    (writeEnable b z s).recovery.state = s.recovery.state ∧
    (writeEnable b z s).recovery.records = s.recovery.records ∧
    (writeEnable b z s).recovery.resetTimes = s.recovery.resetTimes ∧
    (writeEnable b z s).recovery.hardLatch = s.recovery.hardLatch ∧
    (writeEnable b z s).recovery.lockout = s.recovery.lockout ∧
    (writeEnable b z s).recovery.suspend = s.recovery.suspend ∧ (writeEnable b z s).tank = s.tank ∧
    (writeEnable b z s).accounts = s.accounts ∧ (writeEnable b z s).monitor.reset = s.monitor.reset ∧
    (writeEnable b z s).alarms.sendTimes = s.alarms.sendTimes ∧ (writeEnable b z s).mgmt = s.mgmt ∧
    (writeEnable b z s).time = s.time ∧ (writeEnable b z s).store = s.store := by
  simp only [writeEnable]; (repeat' split) <;> simp

@[simp] theorem placeOutput_frame (o : OutputId) :
    (placeOutput o s).pending = s.pending ∧ (placeOutput o s).powered = s.powered ∧
    (placeOutput o s).free = s.free ∧ (placeOutput o s).settings = s.settings ∧ (placeOutput o s).portA = s.portA ∧
    (placeOutput o s).portB = s.portB ∧ (placeOutput o s).ownSeq = s.ownSeq ∧ (placeOutput o s).table = s.table ∧
    (placeOutput o s).zones.zones = s.zones.zones ∧ (placeOutput o s).zones.units = s.zones.units ∧
    (placeOutput o s).zones.floor = s.zones.floor ∧ (placeOutput o s).zones.demand = s.zones.demand ∧
    (placeOutput o s).burner = s.burner ∧ (placeOutput o s).recovery = s.recovery ∧
    (placeOutput o s).tank = s.tank ∧ (placeOutput o s).accounts = s.accounts ∧
    (placeOutput o s).sampler = s.sampler ∧ (placeOutput o s).monitor = s.monitor ∧
    (placeOutput o s).alarms = s.alarms ∧ (placeOutput o s).mgmt = s.mgmt ∧ (placeOutput o s).time = s.time ∧
    (placeOutput o s).store = s.store := by
  simp [placeOutput, State.setValve]

@[simp] theorem assignOutput_frame (n : Option OutputId) (z : ZoneId) :
    (assignOutput n z s).pending = s.pending ∧ (assignOutput n z s).powered = s.powered ∧
    (assignOutput n z s).free = s.free ∧ (assignOutput n z s).portA = s.portA ∧
    (assignOutput n z s).portB = s.portB ∧ (assignOutput n z s).ownSeq = s.ownSeq ∧
    (assignOutput n z s).table = s.table ∧ (assignOutput n z s).zones.zones = s.zones.zones ∧
    (assignOutput n z s).zones.units = s.zones.units ∧ (assignOutput n z s).zones.floor = s.zones.floor ∧
    (assignOutput n z s).zones.demand = s.zones.demand ∧ (assignOutput n z s).burner = s.burner ∧
    (assignOutput n z s).recovery = s.recovery ∧ (assignOutput n z s).tank = s.tank ∧
    (assignOutput n z s).accounts = s.accounts ∧ (assignOutput n z s).sampler = s.sampler ∧
    (assignOutput n z s).monitor = s.monitor ∧ (assignOutput n z s).alarms = s.alarms ∧
    (assignOutput n z s).mgmt = s.mgmt ∧ (assignOutput n z s).time = s.time ∧ (assignOutput n z s).store = s.store := by
  simp only [assignOutput]; split <;> simp [State.setZoneCfg]

@[simp] theorem writeOutput_frame (n : Option OutputId) (z : ZoneId) :
    (writeOutput n z s).pending = s.pending ∧ (writeOutput n z s).powered = s.powered ∧
    (writeOutput n z s).free = s.free ∧ (writeOutput n z s).portA.queue = s.portA.queue ∧
    (writeOutput n z s).portA.counts = s.portA.counts ∧ (writeOutput n z s).portA.reply = s.portA.reply ∧
    (writeOutput n z s).portA.alarm = s.portA.alarm ∧ (writeOutput n z s).portA.occupancy = s.portA.occupancy ∧
    (writeOutput n z s).portB.queue = s.portB.queue ∧ (writeOutput n z s).portB.counts = s.portB.counts ∧
    (writeOutput n z s).portB.reply = s.portB.reply ∧ (writeOutput n z s).portB.alarm = s.portB.alarm ∧
    (writeOutput n z s).portB.occupancy = s.portB.occupancy ∧ (writeOutput n z s).table.entries = s.table.entries ∧
    (writeOutput n z s).table.inFlight = s.table.inFlight ∧ (writeOutput n z s).table.forced = s.table.forced ∧
    (writeOutput n z s).table.pointer = s.table.pointer ∧ (writeOutput n z s).table.moves = s.table.moves ∧
    (writeOutput n z s).table.conflicts = s.table.conflicts ∧
    (writeOutput n z s).table.ownHeard = s.table.ownHeard ∧ (writeOutput n z s).zones.units = s.zones.units ∧
    (writeOutput n z s).zones.floor = s.zones.floor ∧ (writeOutput n z s).burner.run = s.burner.run ∧
    (writeOutput n z s).recovery.state = s.recovery.state ∧
    (writeOutput n z s).recovery.records = s.recovery.records ∧
    (writeOutput n z s).recovery.resetTimes = s.recovery.resetTimes ∧
    (writeOutput n z s).recovery.hardLatch = s.recovery.hardLatch ∧
    (writeOutput n z s).recovery.lockout = s.recovery.lockout ∧
    (writeOutput n z s).recovery.suspend = s.recovery.suspend ∧ (writeOutput n z s).tank = s.tank ∧
    (writeOutput n z s).accounts = s.accounts ∧ (writeOutput n z s).monitor.reset = s.monitor.reset ∧
    (writeOutput n z s).alarms.sendTimes = s.alarms.sendTimes ∧ (writeOutput n z s).mgmt = s.mgmt ∧
    (writeOutput n z s).time = s.time ∧ (writeOutput n z s).store = s.store := by
  simp only [writeOutput]; (repeat' split) <;> simp

@[simp] theorem switchCloses_frame (o : OutputId) :
    (switchCloses o s).pending = s.pending ∧ (switchCloses o s).powered = s.powered ∧
    (switchCloses o s).free = s.free ∧ (switchCloses o s).settings = s.settings ∧
    (switchCloses o s).portA = s.portA ∧ (switchCloses o s).portB = s.portB ∧
    (switchCloses o s).ownSeq = s.ownSeq ∧ (switchCloses o s).table = s.table ∧
    (switchCloses o s).zones.zones = s.zones.zones ∧ (switchCloses o s).zones.units = s.zones.units ∧
    (switchCloses o s).zones.floor = s.zones.floor ∧ (switchCloses o s).zones.demand = s.zones.demand ∧
    (switchCloses o s).burner = s.burner ∧ (switchCloses o s).recovery = s.recovery ∧
    (switchCloses o s).tank = s.tank ∧ (switchCloses o s).accounts = s.accounts ∧
    (switchCloses o s).sampler = s.sampler ∧ (switchCloses o s).monitor = s.monitor ∧
    (switchCloses o s).alarms.sendTimes = s.alarms.sendTimes ∧ (switchCloses o s).mgmt = s.mgmt ∧
    (switchCloses o s).time = s.time ∧ (switchCloses o s).store = s.store := by
  simp only [switchCloses]; split <;> simp [State.setValve]

@[simp] theorem switchOpens_frame (o : OutputId) :
    (switchOpens o s).pending = s.pending ∧ (switchOpens o s).powered = s.powered ∧
    (switchOpens o s).free = s.free ∧ (switchOpens o s).settings = s.settings ∧ (switchOpens o s).portA = s.portA ∧
    (switchOpens o s).portB = s.portB ∧ (switchOpens o s).ownSeq = s.ownSeq ∧ (switchOpens o s).table = s.table ∧
    (switchOpens o s).zones.zones = s.zones.zones ∧ (switchOpens o s).zones.units = s.zones.units ∧
    (switchOpens o s).zones.floor = s.zones.floor ∧ (switchOpens o s).zones.demand = s.zones.demand ∧
    (switchOpens o s).burner = s.burner ∧ (switchOpens o s).recovery = s.recovery ∧
    (switchOpens o s).tank = s.tank ∧ (switchOpens o s).accounts = s.accounts ∧
    (switchOpens o s).sampler = s.sampler ∧ (switchOpens o s).monitor = s.monitor ∧
    (switchOpens o s).alarms.sendTimes = s.alarms.sendTimes ∧ (switchOpens o s).mgmt = s.mgmt ∧
    (switchOpens o s).time = s.time ∧ (switchOpens o s).store = s.store := by
  simp only [switchOpens]; split <;> simp [State.setValve]

@[simp] theorem firstValue_frame (c : BitVec 12) (o : OutputId) :
    (firstValue c o s).pending = s.pending ∧ (firstValue c o s).powered = s.powered ∧
    (firstValue c o s).free = s.free ∧ (firstValue c o s).settings = s.settings ∧
    (firstValue c o s).portA = s.portA ∧ (firstValue c o s).portB = s.portB ∧
    (firstValue c o s).ownSeq = s.ownSeq ∧ (firstValue c o s).table = s.table ∧
    (firstValue c o s).zones.zones = s.zones.zones ∧ (firstValue c o s).zones.units = s.zones.units ∧
    (firstValue c o s).zones.floor = s.zones.floor ∧ (firstValue c o s).zones.demand = s.zones.demand ∧
    (firstValue c o s).burner = s.burner ∧ (firstValue c o s).recovery = s.recovery ∧
    (firstValue c o s).tank = s.tank ∧ (firstValue c o s).accounts = s.accounts ∧
    (firstValue c o s).sampler = s.sampler ∧ (firstValue c o s).monitor = s.monitor ∧
    (firstValue c o s).alarms.sendTimes = s.alarms.sendTimes ∧ (firstValue c o s).mgmt = s.mgmt ∧
    (firstValue c o s).time = s.time ∧ (firstValue c o s).store = s.store := by
  simp only [firstValue]; (repeat' split) <;> simp [State.setValve]

@[simp] theorem travelExpires_frame (o : OutputId) :
    (travelExpires o s).pending = s.pending ∧ (travelExpires o s).powered = s.powered ∧
    (travelExpires o s).free = s.free ∧ (travelExpires o s).settings = s.settings ∧
    (travelExpires o s).portA = s.portA ∧ (travelExpires o s).portB = s.portB ∧
    (travelExpires o s).ownSeq = s.ownSeq ∧ (travelExpires o s).table = s.table ∧
    (travelExpires o s).zones.zones = s.zones.zones ∧ (travelExpires o s).zones.units = s.zones.units ∧
    (travelExpires o s).zones.floor = s.zones.floor ∧ (travelExpires o s).zones.demand = s.zones.demand ∧
    (travelExpires o s).burner = s.burner ∧ (travelExpires o s).recovery = s.recovery ∧
    (travelExpires o s).tank = s.tank ∧ (travelExpires o s).accounts = s.accounts ∧
    (travelExpires o s).sampler = s.sampler ∧ (travelExpires o s).monitor = s.monitor ∧
    (travelExpires o s).alarms.sendTimes = s.alarms.sendTimes ∧ (travelExpires o s).mgmt = s.mgmt ∧
    (travelExpires o s).time = s.time ∧ (travelExpires o s).store = s.store := by
  simp only [travelExpires]; (repeat' split) <;> simp

end Sys2Proof.Machine
end

