-- ==== Sys2Proof/Laws/FramesRecovery.lean ====
section
/-! SUPPORT. What each shared operation of the store's requests and the recovery unit leaves as it stands: everything but
what the lemma does not name. -/

namespace Sys2Proof.Machine

variable (s : State)

/-- Stopping recovery's timers leaves its state, its lists, its latch and the suspend condition. -/
@[simp] theorem stopRecoveryTimers_frame (r : Recovery) :
    (stopRecoveryTimers r).state = r.state ∧ (stopRecoveryTimers r).records = r.records ∧
    (stopRecoveryTimers r).resetTimes = r.resetTimes ∧ (stopRecoveryTimers r).hardLatch = r.hardLatch ∧
    (stopRecoveryTimers r).lockout = r.lockout ∧ (stopRecoveryTimers r).suspend = r.suspend :=
  ⟨rfl, rfl, rfl, rfl, rfl, rfl⟩

@[simp] theorem requestSettingsSave_frame :
    (requestSettingsSave s).pending = s.pending ∧ (requestSettingsSave s).powered = s.powered ∧
    (requestSettingsSave s).free = s.free ∧ (requestSettingsSave s).settings = s.settings ∧
    (requestSettingsSave s).portA = s.portA ∧ (requestSettingsSave s).portB = s.portB ∧
    (requestSettingsSave s).ownSeq = s.ownSeq ∧ (requestSettingsSave s).table = s.table ∧
    (requestSettingsSave s).zones = s.zones ∧ (requestSettingsSave s).burner = s.burner ∧
    (requestSettingsSave s).recovery = s.recovery ∧ (requestSettingsSave s).tank = s.tank ∧
    (requestSettingsSave s).accounts = s.accounts ∧ (requestSettingsSave s).sampler = s.sampler ∧
    (requestSettingsSave s).monitor = s.monitor ∧ (requestSettingsSave s).alarms = s.alarms ∧
    (requestSettingsSave s).mgmt = s.mgmt ∧ (requestSettingsSave s).time = s.time ∧
    (requestSettingsSave s).store.settings = s.store.settings ∧
    (requestSettingsSave s).store.running = s.store.running ∧
    (requestSettingsSave s).store.settingsFailed = s.store.settingsFailed ∧
    (requestSettingsSave s).store.runningFailed = s.store.runningFailed := by
  simp only [requestSettingsSave, startSettingsSave]; (repeat' split) <;> simp

@[simp] theorem requestRunningSave_frame :
    (requestRunningSave s).pending = s.pending ∧ (requestRunningSave s).powered = s.powered ∧
    (requestRunningSave s).free = s.free ∧ (requestRunningSave s).settings = s.settings ∧
    (requestRunningSave s).portA = s.portA ∧ (requestRunningSave s).portB = s.portB ∧
    (requestRunningSave s).ownSeq = s.ownSeq ∧ (requestRunningSave s).table = s.table ∧
    (requestRunningSave s).zones = s.zones ∧ (requestRunningSave s).burner = s.burner ∧
    (requestRunningSave s).recovery = s.recovery ∧ (requestRunningSave s).tank = s.tank ∧
    (requestRunningSave s).accounts = s.accounts ∧ (requestRunningSave s).sampler = s.sampler ∧
    (requestRunningSave s).monitor = s.monitor ∧ (requestRunningSave s).alarms = s.alarms ∧
    (requestRunningSave s).mgmt = s.mgmt ∧ (requestRunningSave s).time = s.time ∧
    (requestRunningSave s).store.settings = s.store.settings ∧
    (requestRunningSave s).store.running = s.store.running ∧
    (requestRunningSave s).store.settingsPending = s.store.settingsPending ∧
    (requestRunningSave s).store.settingsFailed = s.store.settingsFailed ∧
    (requestRunningSave s).store.runningFailed = s.store.runningFailed := by
  simp only [requestRunningSave, startRunningSave]; (repeat' split) <;> simp

@[simp] theorem changeRecord_frame (f : LockoutRecord → LockoutRecord) :
    (changeRecord f s).pending = s.pending ∧ (changeRecord f s).powered = s.powered ∧
    (changeRecord f s).free = s.free ∧ (changeRecord f s).settings = s.settings ∧
    (changeRecord f s).portA = s.portA ∧ (changeRecord f s).portB = s.portB ∧
    (changeRecord f s).ownSeq = s.ownSeq ∧ (changeRecord f s).table = s.table ∧
    (changeRecord f s).zones = s.zones ∧ (changeRecord f s).burner = s.burner ∧
    (changeRecord f s).recovery.state = s.recovery.state ∧
    (changeRecord f s).recovery.resetTimes = s.recovery.resetTimes ∧
    (changeRecord f s).recovery.hardLatch = s.recovery.hardLatch ∧
    (changeRecord f s).recovery.lockout = s.recovery.lockout ∧
    (changeRecord f s).recovery.suspend = s.recovery.suspend ∧ (changeRecord f s).tank = s.tank ∧
    (changeRecord f s).accounts = s.accounts ∧ (changeRecord f s).sampler = s.sampler ∧
    (changeRecord f s).monitor = s.monitor ∧ (changeRecord f s).alarms = s.alarms ∧
    (changeRecord f s).mgmt = s.mgmt ∧ (changeRecord f s).time = s.time ∧ (changeRecord f s).store = s.store := by
  simp only [changeRecord]; (repeat' split) <;> simp

@[simp] theorem closeRecord_frame (o : RecordOutcome) :
    (closeRecord o s).pending = s.pending ∧ (closeRecord o s).powered = s.powered ∧
    (closeRecord o s).free = s.free ∧ (closeRecord o s).settings = s.settings ∧ (closeRecord o s).portA = s.portA ∧
    (closeRecord o s).portB = s.portB ∧ (closeRecord o s).ownSeq = s.ownSeq ∧ (closeRecord o s).table = s.table ∧
    (closeRecord o s).zones = s.zones ∧ (closeRecord o s).burner = s.burner ∧
    (closeRecord o s).recovery.state = s.recovery.state ∧
    (closeRecord o s).recovery.resetTimes = s.recovery.resetTimes ∧
    (closeRecord o s).recovery.hardLatch = s.recovery.hardLatch ∧
    (closeRecord o s).recovery.lockout = s.recovery.lockout ∧
    (closeRecord o s).recovery.suspend = s.recovery.suspend ∧ (closeRecord o s).tank = s.tank ∧
    (closeRecord o s).accounts = s.accounts ∧ (closeRecord o s).sampler = s.sampler ∧
    (closeRecord o s).monitor = s.monitor ∧ (closeRecord o s).alarms = s.alarms ∧ (closeRecord o s).mgmt = s.mgmt ∧
    (closeRecord o s).time = s.time ∧ (closeRecord o s).store = s.store := by
  simp only [closeRecord]; (repeat' split) <;> simp

@[simp] theorem markHand_frame :
    (markHand s).pending = s.pending ∧ (markHand s).powered = s.powered ∧ (markHand s).free = s.free ∧
    (markHand s).settings = s.settings ∧ (markHand s).portA = s.portA ∧ (markHand s).portB = s.portB ∧
    (markHand s).ownSeq = s.ownSeq ∧ (markHand s).table = s.table ∧ (markHand s).zones = s.zones ∧
    (markHand s).burner = s.burner ∧ (markHand s).recovery.state = s.recovery.state ∧
    (markHand s).recovery.resetTimes = s.recovery.resetTimes ∧
    (markHand s).recovery.hardLatch = s.recovery.hardLatch ∧ (markHand s).recovery.lockout = s.recovery.lockout ∧
    (markHand s).recovery.suspend = s.recovery.suspend ∧ (markHand s).tank = s.tank ∧
    (markHand s).accounts = s.accounts ∧ (markHand s).sampler = s.sampler ∧ (markHand s).monitor = s.monitor ∧
    (markHand s).alarms = s.alarms ∧ (markHand s).mgmt = s.mgmt ∧ (markHand s).time = s.time ∧
    (markHand s).store = s.store := by
  simp only [markHand]; (repeat' split) <;> simp

@[simp] theorem enterRecovery_frame (n : RecoveryState) :
    (enterRecovery n s).pending = s.pending ∧ (enterRecovery n s).powered = s.powered ∧
    (enterRecovery n s).free = s.free ∧ (enterRecovery n s).settings = s.settings ∧
    (enterRecovery n s).portA.queue = s.portA.queue ∧ (enterRecovery n s).portA.counts = s.portA.counts ∧
    (enterRecovery n s).portA.reply = s.portA.reply ∧ (enterRecovery n s).portA.alarm = s.portA.alarm ∧
    (enterRecovery n s).portA.occupancy = s.portA.occupancy ∧ (enterRecovery n s).portB.queue = s.portB.queue ∧
    (enterRecovery n s).portB.counts = s.portB.counts ∧ (enterRecovery n s).portB.reply = s.portB.reply ∧
    (enterRecovery n s).portB.alarm = s.portB.alarm ∧ (enterRecovery n s).portB.occupancy = s.portB.occupancy ∧
    (enterRecovery n s).table.entries = s.table.entries ∧ (enterRecovery n s).table.inFlight = s.table.inFlight ∧
    (enterRecovery n s).table.forced = s.table.forced ∧ (enterRecovery n s).table.pointer = s.table.pointer ∧
    (enterRecovery n s).table.moves = s.table.moves ∧ (enterRecovery n s).table.conflicts = s.table.conflicts ∧
    (enterRecovery n s).table.ownHeard = s.table.ownHeard ∧ (enterRecovery n s).zones = s.zones ∧
    (enterRecovery n s).burner = s.burner ∧ (enterRecovery n s).recovery.records = s.recovery.records ∧
    (enterRecovery n s).recovery.resetTimes = s.recovery.resetTimes ∧
    (enterRecovery n s).recovery.hardLatch = s.recovery.hardLatch ∧
    (enterRecovery n s).recovery.lockout = s.recovery.lockout ∧
    (enterRecovery n s).recovery.suspend = s.recovery.suspend ∧ (enterRecovery n s).tank = s.tank ∧
    (enterRecovery n s).accounts = s.accounts ∧ (enterRecovery n s).sampler = s.sampler ∧
    (enterRecovery n s).monitor = s.monitor ∧ (enterRecovery n s).alarms.waiting = s.alarms.waiting ∧
    (enterRecovery n s).alarms.sendTimes = s.alarms.sendTimes ∧ (enterRecovery n s).mgmt = s.mgmt ∧
    (enterRecovery n s).time = s.time ∧ (enterRecovery n s).store = s.store := by
  simp only [enterRecovery]; (repeat' split) <;> simp

@[simp] theorem enterHard_frame (h : HardReason) :
    (enterHard h s).pending = s.pending ∧ (enterHard h s).powered = s.powered ∧ (enterHard h s).free = s.free ∧
    (enterHard h s).settings = s.settings ∧ (enterHard h s).portA.queue = s.portA.queue ∧
    (enterHard h s).portA.counts = s.portA.counts ∧ (enterHard h s).portA.reply = s.portA.reply ∧
    (enterHard h s).portA.alarm = s.portA.alarm ∧ (enterHard h s).portA.occupancy = s.portA.occupancy ∧
    (enterHard h s).portB.queue = s.portB.queue ∧ (enterHard h s).portB.counts = s.portB.counts ∧
    (enterHard h s).portB.reply = s.portB.reply ∧ (enterHard h s).portB.alarm = s.portB.alarm ∧
    (enterHard h s).portB.occupancy = s.portB.occupancy ∧ (enterHard h s).table.entries = s.table.entries ∧
    (enterHard h s).table.inFlight = s.table.inFlight ∧ (enterHard h s).table.forced = s.table.forced ∧
    (enterHard h s).table.pointer = s.table.pointer ∧ (enterHard h s).table.moves = s.table.moves ∧
    (enterHard h s).table.conflicts = s.table.conflicts ∧ (enterHard h s).table.ownHeard = s.table.ownHeard ∧
    (enterHard h s).zones.zones = s.zones.zones ∧ (enterHard h s).zones.units = s.zones.units ∧
    (enterHard h s).zones.valves = s.zones.valves ∧ (enterHard h s).zones.floor = s.zones.floor ∧
    (enterHard h s).zones.demand = s.zones.demand ∧ (enterHard h s).burner.demand = s.burner.demand ∧
    (enterHard h s).burner.run = s.burner.run ∧ (enterHard h s).burner.startTimes = s.burner.startTimes ∧
    (enterHard h s).recovery.records = s.recovery.records ∧
    (enterHard h s).recovery.resetTimes = s.recovery.resetTimes ∧
    (enterHard h s).recovery.lockout = s.recovery.lockout ∧ (enterHard h s).recovery.suspend = s.recovery.suspend ∧
    (enterHard h s).tank = s.tank ∧ (enterHard h s).accounts = s.accounts ∧
    (enterHard h s).sampler.counters = s.sampler.counters ∧ (enterHard h s).alarms.sendTimes = s.alarms.sendTimes ∧
    (enterHard h s).mgmt = s.mgmt ∧ (enterHard h s).time = s.time ∧
    (enterHard h s).store.settings = s.store.settings ∧ (enterHard h s).store.running = s.store.running ∧
    (enterHard h s).store.settingsPending = s.store.settingsPending ∧
    (enterHard h s).store.settingsFailed = s.store.settingsFailed ∧
    (enterHard h s).store.runningFailed = s.store.runningFailed := by
  simp only [enterHard]; (repeat' split) <;> simp

@[simp] theorem toCooling_frame :
    (toCooling s).pending = s.pending ∧ (toCooling s).powered = s.powered ∧ (toCooling s).free = s.free ∧
    (toCooling s).settings = s.settings ∧ (toCooling s).portA.queue = s.portA.queue ∧
    (toCooling s).portA.counts = s.portA.counts ∧ (toCooling s).portA.reply = s.portA.reply ∧
    (toCooling s).portA.alarm = s.portA.alarm ∧ (toCooling s).portA.occupancy = s.portA.occupancy ∧
    (toCooling s).portB.queue = s.portB.queue ∧ (toCooling s).portB.counts = s.portB.counts ∧
    (toCooling s).portB.reply = s.portB.reply ∧ (toCooling s).portB.alarm = s.portB.alarm ∧
    (toCooling s).portB.occupancy = s.portB.occupancy ∧ (toCooling s).table.entries = s.table.entries ∧
    (toCooling s).table.inFlight = s.table.inFlight ∧ (toCooling s).table.forced = s.table.forced ∧
    (toCooling s).table.pointer = s.table.pointer ∧ (toCooling s).table.moves = s.table.moves ∧
    (toCooling s).table.conflicts = s.table.conflicts ∧ (toCooling s).table.ownHeard = s.table.ownHeard ∧
    (toCooling s).zones = s.zones ∧ (toCooling s).burner = s.burner ∧
    (toCooling s).recovery.records = s.recovery.records ∧
    (toCooling s).recovery.resetTimes = s.recovery.resetTimes ∧
    (toCooling s).recovery.hardLatch = s.recovery.hardLatch ∧ (toCooling s).recovery.lockout = s.recovery.lockout ∧
    (toCooling s).recovery.suspend = s.recovery.suspend ∧ (toCooling s).tank = s.tank ∧
    (toCooling s).accounts = s.accounts ∧ (toCooling s).sampler = s.sampler ∧ (toCooling s).monitor = s.monitor ∧
    (toCooling s).alarms.waiting = s.alarms.waiting ∧ (toCooling s).alarms.sendTimes = s.alarms.sendTimes ∧
    (toCooling s).mgmt = s.mgmt ∧ (toCooling s).time = s.time ∧ (toCooling s).store = s.store := by
  simp only [toCooling]; (repeat' split) <;> simp

@[simp] theorem startPulse_frame :
    (startPulse s).pending = s.pending ∧ (startPulse s).powered = s.powered ∧ (startPulse s).free = s.free ∧
    (startPulse s).settings = s.settings ∧ (startPulse s).portA = s.portA ∧ (startPulse s).portB = s.portB ∧
    (startPulse s).ownSeq = s.ownSeq ∧ (startPulse s).table = s.table ∧ (startPulse s).zones = s.zones ∧
    (startPulse s).burner = s.burner ∧ (startPulse s).recovery.state = s.recovery.state ∧
    (startPulse s).recovery.records = s.recovery.records ∧
    (startPulse s).recovery.resetTimes = s.recovery.resetTimes ∧
    (startPulse s).recovery.hardLatch = s.recovery.hardLatch ∧
    (startPulse s).recovery.lockout = s.recovery.lockout ∧ (startPulse s).recovery.suspend = s.recovery.suspend ∧
    (startPulse s).tank = s.tank ∧ (startPulse s).accounts = s.accounts ∧ (startPulse s).sampler = s.sampler ∧
    (startPulse s).alarms = s.alarms ∧ (startPulse s).mgmt = s.mgmt ∧ (startPulse s).time = s.time ∧
    (startPulse s).store = s.store := by
  simp only [startPulse]; (repeat' split) <;> simp

@[simp] theorem automaticPulse_frame :
    (automaticPulse s).pending = s.pending ∧ (automaticPulse s).powered = s.powered ∧
    (automaticPulse s).free = s.free ∧ (automaticPulse s).settings = s.settings ∧
    (automaticPulse s).portA.queue = s.portA.queue ∧ (automaticPulse s).portA.counts = s.portA.counts ∧
    (automaticPulse s).portA.reply = s.portA.reply ∧ (automaticPulse s).portA.alarm = s.portA.alarm ∧
    (automaticPulse s).portA.occupancy = s.portA.occupancy ∧ (automaticPulse s).portB.queue = s.portB.queue ∧
    (automaticPulse s).portB.counts = s.portB.counts ∧ (automaticPulse s).portB.reply = s.portB.reply ∧
    (automaticPulse s).portB.alarm = s.portB.alarm ∧ (automaticPulse s).portB.occupancy = s.portB.occupancy ∧
    (automaticPulse s).table.entries = s.table.entries ∧ (automaticPulse s).table.inFlight = s.table.inFlight ∧
    (automaticPulse s).table.forced = s.table.forced ∧ (automaticPulse s).table.pointer = s.table.pointer ∧
    (automaticPulse s).table.moves = s.table.moves ∧ (automaticPulse s).table.conflicts = s.table.conflicts ∧
    (automaticPulse s).table.ownHeard = s.table.ownHeard ∧ (automaticPulse s).zones = s.zones ∧
    (automaticPulse s).burner = s.burner ∧ (automaticPulse s).recovery.hardLatch = s.recovery.hardLatch ∧
    (automaticPulse s).recovery.lockout = s.recovery.lockout ∧
    (automaticPulse s).recovery.suspend = s.recovery.suspend ∧ (automaticPulse s).tank = s.tank ∧
    (automaticPulse s).accounts = s.accounts ∧ (automaticPulse s).alarms.waiting = s.alarms.waiting ∧
    (automaticPulse s).alarms.sendTimes = s.alarms.sendTimes ∧ (automaticPulse s).mgmt = s.mgmt ∧
    (automaticPulse s).time = s.time ∧ (automaticPulse s).store = s.store := by
  simp only [automaticPulse]; (repeat' split) <;> simp

@[simp] theorem testsThenCooling_frame :
    (testsThen toCooling s).pending = s.pending ∧ (testsThen toCooling s).powered = s.powered ∧
    (testsThen toCooling s).free = s.free ∧ (testsThen toCooling s).settings = s.settings ∧
    (testsThen toCooling s).portA.queue = s.portA.queue ∧ (testsThen toCooling s).portA.counts = s.portA.counts ∧
    (testsThen toCooling s).portA.reply = s.portA.reply ∧ (testsThen toCooling s).portA.alarm = s.portA.alarm ∧
    (testsThen toCooling s).portA.occupancy = s.portA.occupancy ∧
    (testsThen toCooling s).portB.queue = s.portB.queue ∧ (testsThen toCooling s).portB.counts = s.portB.counts ∧
    (testsThen toCooling s).portB.reply = s.portB.reply ∧ (testsThen toCooling s).portB.alarm = s.portB.alarm ∧
    (testsThen toCooling s).portB.occupancy = s.portB.occupancy ∧
    (testsThen toCooling s).table.entries = s.table.entries ∧
    (testsThen toCooling s).table.inFlight = s.table.inFlight ∧
    (testsThen toCooling s).table.forced = s.table.forced ∧
    (testsThen toCooling s).table.pointer = s.table.pointer ∧ (testsThen toCooling s).table.moves = s.table.moves ∧
    (testsThen toCooling s).table.conflicts = s.table.conflicts ∧
    (testsThen toCooling s).table.ownHeard = s.table.ownHeard ∧
    (testsThen toCooling s).zones.zones = s.zones.zones ∧ (testsThen toCooling s).zones.units = s.zones.units ∧
    (testsThen toCooling s).zones.valves = s.zones.valves ∧ (testsThen toCooling s).zones.floor = s.zones.floor ∧
    (testsThen toCooling s).zones.demand = s.zones.demand ∧
    (testsThen toCooling s).burner.demand = s.burner.demand ∧ (testsThen toCooling s).burner.run = s.burner.run ∧
    (testsThen toCooling s).burner.startTimes = s.burner.startTimes ∧
    (testsThen toCooling s).recovery.records = s.recovery.records ∧
    (testsThen toCooling s).recovery.resetTimes = s.recovery.resetTimes ∧
    (testsThen toCooling s).recovery.lockout = s.recovery.lockout ∧
    (testsThen toCooling s).recovery.suspend = s.recovery.suspend ∧ (testsThen toCooling s).tank = s.tank ∧
    (testsThen toCooling s).accounts = s.accounts ∧ (testsThen toCooling s).sampler.counters = s.sampler.counters ∧
    (testsThen toCooling s).alarms.sendTimes = s.alarms.sendTimes ∧ (testsThen toCooling s).mgmt = s.mgmt ∧
    (testsThen toCooling s).time = s.time ∧ (testsThen toCooling s).store.settings = s.store.settings ∧
    (testsThen toCooling s).store.running = s.store.running ∧
    (testsThen toCooling s).store.settingsPending = s.store.settingsPending ∧
    (testsThen toCooling s).store.settingsFailed = s.store.settingsFailed ∧
    (testsThen toCooling s).store.runningFailed = s.store.runningFailed := by
  simp only [testsThen, budgetThen]; (repeat' split) <;> simp

@[simp] theorem openEpisode_frame :
    (openEpisode s).pending = s.pending ∧ (openEpisode s).powered = s.powered ∧ (openEpisode s).free = s.free ∧
    (openEpisode s).settings = s.settings ∧ (openEpisode s).portA.queue = s.portA.queue ∧
    (openEpisode s).portA.counts = s.portA.counts ∧ (openEpisode s).portA.reply = s.portA.reply ∧
    (openEpisode s).portA.alarm = s.portA.alarm ∧ (openEpisode s).portA.occupancy = s.portA.occupancy ∧
    (openEpisode s).portB.queue = s.portB.queue ∧ (openEpisode s).portB.counts = s.portB.counts ∧
    (openEpisode s).portB.reply = s.portB.reply ∧ (openEpisode s).portB.alarm = s.portB.alarm ∧
    (openEpisode s).portB.occupancy = s.portB.occupancy ∧ (openEpisode s).table.entries = s.table.entries ∧
    (openEpisode s).table.inFlight = s.table.inFlight ∧ (openEpisode s).table.forced = s.table.forced ∧
    (openEpisode s).table.pointer = s.table.pointer ∧ (openEpisode s).table.moves = s.table.moves ∧
    (openEpisode s).table.conflicts = s.table.conflicts ∧ (openEpisode s).table.ownHeard = s.table.ownHeard ∧
    (openEpisode s).zones.zones = s.zones.zones ∧ (openEpisode s).zones.units = s.zones.units ∧
    (openEpisode s).zones.valves = s.zones.valves ∧ (openEpisode s).zones.floor = s.zones.floor ∧
    (openEpisode s).zones.demand = s.zones.demand ∧ (openEpisode s).burner.demand = s.burner.demand ∧
    (openEpisode s).burner.run = s.burner.run ∧ (openEpisode s).recovery.lockout = s.recovery.lockout ∧
    (openEpisode s).recovery.suspend = s.recovery.suspend ∧ (openEpisode s).tank = s.tank ∧
    (openEpisode s).accounts = s.accounts ∧ (openEpisode s).alarms.sendTimes = s.alarms.sendTimes ∧
    (openEpisode s).mgmt = s.mgmt ∧ (openEpisode s).time = s.time ∧
    (openEpisode s).store.settings = s.store.settings ∧ (openEpisode s).store.running = s.store.running ∧
    (openEpisode s).store.settingsPending = s.store.settingsPending ∧
    (openEpisode s).store.settingsFailed = s.store.settingsFailed ∧
    (openEpisode s).store.runningFailed = s.store.runningFailed := by
  simp only [openEpisode]; (repeat' split) <;> simp

@[simp] theorem continueEpisode_frame :
    (continueEpisode s).pending = s.pending ∧ (continueEpisode s).powered = s.powered ∧
    (continueEpisode s).free = s.free ∧ (continueEpisode s).settings = s.settings ∧
    (continueEpisode s).portA.queue = s.portA.queue ∧ (continueEpisode s).portA.counts = s.portA.counts ∧
    (continueEpisode s).portA.reply = s.portA.reply ∧ (continueEpisode s).portA.alarm = s.portA.alarm ∧
    (continueEpisode s).portA.occupancy = s.portA.occupancy ∧ (continueEpisode s).portB.queue = s.portB.queue ∧
    (continueEpisode s).portB.counts = s.portB.counts ∧ (continueEpisode s).portB.reply = s.portB.reply ∧
    (continueEpisode s).portB.alarm = s.portB.alarm ∧ (continueEpisode s).portB.occupancy = s.portB.occupancy ∧
    (continueEpisode s).table.entries = s.table.entries ∧ (continueEpisode s).table.inFlight = s.table.inFlight ∧
    (continueEpisode s).table.forced = s.table.forced ∧ (continueEpisode s).table.pointer = s.table.pointer ∧
    (continueEpisode s).table.moves = s.table.moves ∧ (continueEpisode s).table.conflicts = s.table.conflicts ∧
    (continueEpisode s).table.ownHeard = s.table.ownHeard ∧ (continueEpisode s).zones.zones = s.zones.zones ∧
    (continueEpisode s).zones.units = s.zones.units ∧ (continueEpisode s).zones.valves = s.zones.valves ∧
    (continueEpisode s).zones.floor = s.zones.floor ∧ (continueEpisode s).zones.demand = s.zones.demand ∧
    (continueEpisode s).burner.demand = s.burner.demand ∧ (continueEpisode s).burner.run = s.burner.run ∧
    (continueEpisode s).recovery.lockout = s.recovery.lockout ∧
    (continueEpisode s).recovery.suspend = s.recovery.suspend ∧ (continueEpisode s).tank = s.tank ∧
    (continueEpisode s).accounts = s.accounts ∧ (continueEpisode s).alarms.sendTimes = s.alarms.sendTimes ∧
    (continueEpisode s).mgmt = s.mgmt ∧ (continueEpisode s).time = s.time ∧
    (continueEpisode s).store.settings = s.store.settings ∧ (continueEpisode s).store.running = s.store.running ∧
    (continueEpisode s).store.settingsPending = s.store.settingsPending ∧
    (continueEpisode s).store.settingsFailed = s.store.settingsFailed ∧
    (continueEpisode s).store.runningFailed = s.store.runningFailed := by
  simp only [continueEpisode]; (repeat' split) <;> simp

@[simp] theorem toObserving_frame :
    (toObserving s).pending = s.pending ∧ (toObserving s).powered = s.powered ∧ (toObserving s).free = s.free ∧
    (toObserving s).settings = s.settings ∧ (toObserving s).portA.queue = s.portA.queue ∧
    (toObserving s).portA.counts = s.portA.counts ∧ (toObserving s).portA.reply = s.portA.reply ∧
    (toObserving s).portA.alarm = s.portA.alarm ∧ (toObserving s).portA.occupancy = s.portA.occupancy ∧
    (toObserving s).portB.queue = s.portB.queue ∧ (toObserving s).portB.counts = s.portB.counts ∧
    (toObserving s).portB.reply = s.portB.reply ∧ (toObserving s).portB.alarm = s.portB.alarm ∧
    (toObserving s).portB.occupancy = s.portB.occupancy ∧ (toObserving s).table.entries = s.table.entries ∧
    (toObserving s).table.inFlight = s.table.inFlight ∧ (toObserving s).table.forced = s.table.forced ∧
    (toObserving s).table.pointer = s.table.pointer ∧ (toObserving s).table.moves = s.table.moves ∧
    (toObserving s).table.conflicts = s.table.conflicts ∧ (toObserving s).table.ownHeard = s.table.ownHeard ∧
    (toObserving s).zones.zones = s.zones.zones ∧ (toObserving s).zones.units = s.zones.units ∧
    (toObserving s).zones.valves = s.zones.valves ∧ (toObserving s).zones.floor = s.zones.floor ∧
    (toObserving s).zones.demand = s.zones.demand ∧ (toObserving s).burner.demand = s.burner.demand ∧
    (toObserving s).burner.run = s.burner.run ∧ (toObserving s).recovery.records = s.recovery.records ∧
    (toObserving s).recovery.resetTimes = s.recovery.resetTimes ∧
    (toObserving s).recovery.hardLatch = s.recovery.hardLatch ∧
    (toObserving s).recovery.lockout = s.recovery.lockout ∧ (toObserving s).recovery.suspend = s.recovery.suspend ∧
    (toObserving s).tank = s.tank ∧ (toObserving s).accounts = s.accounts ∧
    (toObserving s).monitor.reset = s.monitor.reset ∧ (toObserving s).alarms.waiting = s.alarms.waiting ∧
    (toObserving s).alarms.sendTimes = s.alarms.sendTimes ∧ (toObserving s).mgmt = s.mgmt ∧
    (toObserving s).time = s.time ∧ (toObserving s).store = s.store := by
  simp only [toObserving]; (repeat' split) <;> simp

@[simp] theorem suspendTold_frame :
    (suspendTold s).pending = s.pending ∧ (suspendTold s).powered = s.powered ∧ (suspendTold s).free = s.free ∧
    (suspendTold s).settings = s.settings ∧ (suspendTold s).portA.queue = s.portA.queue ∧
    (suspendTold s).portA.counts = s.portA.counts ∧ (suspendTold s).portA.reply = s.portA.reply ∧
    (suspendTold s).portA.alarm = s.portA.alarm ∧ (suspendTold s).portA.occupancy = s.portA.occupancy ∧
    (suspendTold s).portB.queue = s.portB.queue ∧ (suspendTold s).portB.counts = s.portB.counts ∧
    (suspendTold s).portB.reply = s.portB.reply ∧ (suspendTold s).portB.alarm = s.portB.alarm ∧
    (suspendTold s).portB.occupancy = s.portB.occupancy ∧ (suspendTold s).table.entries = s.table.entries ∧
    (suspendTold s).table.inFlight = s.table.inFlight ∧ (suspendTold s).table.forced = s.table.forced ∧
    (suspendTold s).table.pointer = s.table.pointer ∧ (suspendTold s).table.moves = s.table.moves ∧
    (suspendTold s).table.conflicts = s.table.conflicts ∧ (suspendTold s).table.ownHeard = s.table.ownHeard ∧
    (suspendTold s).zones.zones = s.zones.zones ∧ (suspendTold s).zones.units = s.zones.units ∧
    (suspendTold s).zones.valves = s.zones.valves ∧ (suspendTold s).zones.floor = s.zones.floor ∧
    (suspendTold s).zones.demand = s.zones.demand ∧ (suspendTold s).burner.demand = s.burner.demand ∧
    (suspendTold s).burner.run = s.burner.run ∧ (suspendTold s).burner.startTimes = s.burner.startTimes ∧
    (suspendTold s).recovery.records = s.recovery.records ∧
    (suspendTold s).recovery.resetTimes = s.recovery.resetTimes ∧
    (suspendTold s).recovery.lockout = s.recovery.lockout ∧ (suspendTold s).tank = s.tank ∧
    (suspendTold s).accounts = s.accounts ∧ (suspendTold s).sampler.counters = s.sampler.counters ∧
    (suspendTold s).alarms.sendTimes = s.alarms.sendTimes ∧ (suspendTold s).mgmt = s.mgmt ∧
    (suspendTold s).time = s.time ∧ (suspendTold s).store.settings = s.store.settings ∧
    (suspendTold s).store.running = s.store.running ∧
    (suspendTold s).store.settingsPending = s.store.settingsPending ∧
    (suspendTold s).store.settingsFailed = s.store.settingsFailed ∧
    (suspendTold s).store.runningFailed = s.store.runningFailed := by
  simp only [suspendTold, budgetThen]; (repeat' split) <;> simp

@[simp] theorem cutPulse_frame :
    (cutPulse s).pending = s.pending ∧ (cutPulse s).powered = s.powered ∧ (cutPulse s).free = s.free ∧
    (cutPulse s).settings = s.settings ∧ (cutPulse s).portA = s.portA ∧ (cutPulse s).portB = s.portB ∧
    (cutPulse s).ownSeq = s.ownSeq ∧ (cutPulse s).table = s.table ∧ (cutPulse s).zones = s.zones ∧
    (cutPulse s).burner = s.burner ∧ (cutPulse s).recovery.state = s.recovery.state ∧
    (cutPulse s).recovery.records = s.recovery.records ∧ (cutPulse s).recovery.resetTimes = s.recovery.resetTimes ∧
    (cutPulse s).recovery.hardLatch = s.recovery.hardLatch ∧ (cutPulse s).recovery.lockout = s.recovery.lockout ∧
    (cutPulse s).recovery.suspend = s.recovery.suspend ∧ (cutPulse s).tank = s.tank ∧
    (cutPulse s).accounts = s.accounts ∧ (cutPulse s).sampler = s.sampler ∧ (cutPulse s).alarms = s.alarms ∧
    (cutPulse s).mgmt = s.mgmt ∧ (cutPulse s).time = s.time ∧ (cutPulse s).store = s.store := by
  simp only [cutPulse]; (repeat' split) <;> simp

@[simp] theorem recoveryFault_frame (r : Relay) :
    (recoveryFault r s).pending = s.pending ∧ (recoveryFault r s).powered = s.powered ∧
    (recoveryFault r s).free = s.free ∧ (recoveryFault r s).settings = s.settings ∧
    (recoveryFault r s).portA.queue = s.portA.queue ∧ (recoveryFault r s).portA.counts = s.portA.counts ∧
    (recoveryFault r s).portA.reply = s.portA.reply ∧ (recoveryFault r s).portA.alarm = s.portA.alarm ∧
    (recoveryFault r s).portA.occupancy = s.portA.occupancy ∧ (recoveryFault r s).portB.queue = s.portB.queue ∧
    (recoveryFault r s).portB.counts = s.portB.counts ∧ (recoveryFault r s).portB.reply = s.portB.reply ∧
    (recoveryFault r s).portB.alarm = s.portB.alarm ∧ (recoveryFault r s).portB.occupancy = s.portB.occupancy ∧
    (recoveryFault r s).table.entries = s.table.entries ∧ (recoveryFault r s).table.inFlight = s.table.inFlight ∧
    (recoveryFault r s).table.forced = s.table.forced ∧ (recoveryFault r s).table.pointer = s.table.pointer ∧
    (recoveryFault r s).table.moves = s.table.moves ∧ (recoveryFault r s).table.conflicts = s.table.conflicts ∧
    (recoveryFault r s).table.ownHeard = s.table.ownHeard ∧ (recoveryFault r s).zones.zones = s.zones.zones ∧
    (recoveryFault r s).zones.units = s.zones.units ∧ (recoveryFault r s).zones.valves = s.zones.valves ∧
    (recoveryFault r s).zones.floor = s.zones.floor ∧ (recoveryFault r s).zones.demand = s.zones.demand ∧
    (recoveryFault r s).burner.demand = s.burner.demand ∧ (recoveryFault r s).burner.run = s.burner.run ∧
    (recoveryFault r s).burner.startTimes = s.burner.startTimes ∧
    (recoveryFault r s).recovery.records = s.recovery.records ∧
    (recoveryFault r s).recovery.resetTimes = s.recovery.resetTimes ∧
    (recoveryFault r s).recovery.lockout = s.recovery.lockout ∧
    (recoveryFault r s).recovery.suspend = s.recovery.suspend ∧ (recoveryFault r s).tank = s.tank ∧
    (recoveryFault r s).accounts = s.accounts ∧ (recoveryFault r s).sampler.counters = s.sampler.counters ∧
    (recoveryFault r s).alarms.sendTimes = s.alarms.sendTimes ∧ (recoveryFault r s).mgmt = s.mgmt ∧
    (recoveryFault r s).time = s.time ∧ (recoveryFault r s).store.settings = s.store.settings ∧
    (recoveryFault r s).store.running = s.store.running ∧
    (recoveryFault r s).store.settingsPending = s.store.settingsPending ∧
    (recoveryFault r s).store.settingsFailed = s.store.settingsFailed ∧
    (recoveryFault r s).store.runningFailed = s.store.runningFailed := by
  simp only [recoveryFault]; (repeat' split) <;> simp

@[simp] theorem serviceReset_frame :
    (serviceReset s).pending = s.pending ∧ (serviceReset s).powered = s.powered ∧ (serviceReset s).free = s.free ∧
    (serviceReset s).settings = s.settings ∧ (serviceReset s).portA = s.portA ∧ (serviceReset s).portB = s.portB ∧
    (serviceReset s).ownSeq = s.ownSeq ∧ (serviceReset s).table = s.table ∧ (serviceReset s).zones = s.zones ∧
    (serviceReset s).burner = s.burner ∧ (serviceReset s).recovery.state = s.recovery.state ∧
    (serviceReset s).recovery.records = s.recovery.records ∧
    (serviceReset s).recovery.resetTimes = s.recovery.resetTimes ∧
    (serviceReset s).recovery.hardLatch = s.recovery.hardLatch ∧
    (serviceReset s).recovery.lockout = s.recovery.lockout ∧
    (serviceReset s).recovery.suspend = s.recovery.suspend ∧ (serviceReset s).tank = s.tank ∧
    (serviceReset s).accounts = s.accounts ∧ (serviceReset s).sampler = s.sampler ∧
    (serviceReset s).alarms = s.alarms ∧ (serviceReset s).mgmt = s.mgmt ∧ (serviceReset s).time = s.time ∧
    (serviceReset s).store = s.store := by
  simp only [serviceReset]; (repeat' split) <;> simp

@[simp] theorem clearHard_frame :
    (clearHard s).pending = s.pending ∧ (clearHard s).powered = s.powered ∧ (clearHard s).free = s.free ∧
    (clearHard s).settings = s.settings ∧ (clearHard s).portA.queue = s.portA.queue ∧
    (clearHard s).portA.counts = s.portA.counts ∧ (clearHard s).portA.reply = s.portA.reply ∧
    (clearHard s).portA.alarm = s.portA.alarm ∧ (clearHard s).portA.occupancy = s.portA.occupancy ∧
    (clearHard s).portB.queue = s.portB.queue ∧ (clearHard s).portB.counts = s.portB.counts ∧
    (clearHard s).portB.reply = s.portB.reply ∧ (clearHard s).portB.alarm = s.portB.alarm ∧
    (clearHard s).portB.occupancy = s.portB.occupancy ∧ (clearHard s).table.entries = s.table.entries ∧
    (clearHard s).table.inFlight = s.table.inFlight ∧ (clearHard s).table.forced = s.table.forced ∧
    (clearHard s).table.pointer = s.table.pointer ∧ (clearHard s).table.moves = s.table.moves ∧
    (clearHard s).table.conflicts = s.table.conflicts ∧ (clearHard s).table.ownHeard = s.table.ownHeard ∧
    (clearHard s).zones.zones = s.zones.zones ∧ (clearHard s).zones.units = s.zones.units ∧
    (clearHard s).zones.valves = s.zones.valves ∧ (clearHard s).zones.floor = s.zones.floor ∧
    (clearHard s).zones.demand = s.zones.demand ∧ (clearHard s).burner.demand = s.burner.demand ∧
    (clearHard s).burner.run = s.burner.run ∧ (clearHard s).recovery.lockout = s.recovery.lockout ∧
    (clearHard s).recovery.suspend = s.recovery.suspend ∧ (clearHard s).tank = s.tank ∧
    (clearHard s).accounts = s.accounts ∧ (clearHard s).alarms.sendTimes = s.alarms.sendTimes ∧
    (clearHard s).mgmt = s.mgmt ∧ (clearHard s).time = s.time ∧ (clearHard s).store.settings = s.store.settings ∧
    (clearHard s).store.running = s.store.running ∧ (clearHard s).store.settingsPending = s.store.settingsPending ∧
    (clearHard s).store.settingsFailed = s.store.settingsFailed ∧
    (clearHard s).store.runningFailed = s.store.runningFailed := by
  simp only [clearHard]; (repeat' split) <;> simp

end Sys2Proof.Machine
end

