-- ==== Sys2Proof/Laws/FramesMonitor.lean ====
section
/-! SUPPORT. What each shared operation of the output monitor leaves as it stands: everything but
what the lemma does not name. -/

namespace Sys2Proof.Machine

variable (s : State)

@[simp] theorem mismatch_frame (r : Relay) :
    (mismatch r s).pending = s.pending ∧ (mismatch r s).powered = s.powered ∧ (mismatch r s).free = s.free ∧
    (mismatch r s).settings = s.settings ∧ (mismatch r s).portA.queue = s.portA.queue ∧
    (mismatch r s).portA.counts = s.portA.counts ∧ (mismatch r s).portA.reply = s.portA.reply ∧
    (mismatch r s).portA.alarm = s.portA.alarm ∧ (mismatch r s).portA.occupancy = s.portA.occupancy ∧
    (mismatch r s).portB.queue = s.portB.queue ∧ (mismatch r s).portB.counts = s.portB.counts ∧
    (mismatch r s).portB.reply = s.portB.reply ∧ (mismatch r s).portB.alarm = s.portB.alarm ∧
    (mismatch r s).portB.occupancy = s.portB.occupancy ∧ (mismatch r s).table.entries = s.table.entries ∧
    (mismatch r s).table.inFlight = s.table.inFlight ∧ (mismatch r s).table.forced = s.table.forced ∧
    (mismatch r s).table.pointer = s.table.pointer ∧ (mismatch r s).table.moves = s.table.moves ∧
    (mismatch r s).table.conflicts = s.table.conflicts ∧ (mismatch r s).table.ownHeard = s.table.ownHeard ∧
    (mismatch r s).zones.units = s.zones.units ∧ (mismatch r s).zones.floor = s.zones.floor ∧
    (mismatch r s).burner.run = s.burner.run ∧ (mismatch r s).recovery.lockout = s.recovery.lockout ∧
    (mismatch r s).recovery.suspend = s.recovery.suspend ∧ (mismatch r s).tank = s.tank ∧
    (mismatch r s).accounts = s.accounts ∧ (mismatch r s).alarms.sendTimes = s.alarms.sendTimes ∧
    (mismatch r s).mgmt = s.mgmt ∧ (mismatch r s).time = s.time ∧
    (mismatch r s).store.settings = s.store.settings ∧ (mismatch r s).store.running = s.store.running ∧
    (mismatch r s).store.settingsPending = s.store.settingsPending ∧
    (mismatch r s).store.settingsFailed = s.store.settingsFailed ∧
    (mismatch r s).store.runningFailed = s.store.runningFailed := by
  simp only [mismatch]; split <;> simp [State.setRelay]

@[simp] theorem clearLatches_frame :
    (clearLatches s).pending = s.pending ∧ (clearLatches s).powered = s.powered ∧ (clearLatches s).free = s.free ∧
    (clearLatches s).settings = s.settings ∧ (clearLatches s).portA = s.portA ∧ (clearLatches s).portB = s.portB ∧
    (clearLatches s).ownSeq = s.ownSeq ∧ (clearLatches s).table = s.table ∧ (clearLatches s).zones = s.zones ∧
    (clearLatches s).burner = s.burner ∧ (clearLatches s).recovery = s.recovery ∧ (clearLatches s).tank = s.tank ∧
    (clearLatches s).accounts = s.accounts ∧ (clearLatches s).sampler = s.sampler ∧
    (clearLatches s).alarms = s.alarms ∧ (clearLatches s).mgmt = s.mgmt ∧ (clearLatches s).time = s.time ∧
    (clearLatches s).store = s.store := by
  simp [clearLatches, forEach, allRelays, State.setRelay]

@[simp] theorem clearFaults_frame :
    (clearFaults s).pending = s.pending ∧ (clearFaults s).powered = s.powered ∧ (clearFaults s).free = s.free ∧
    (clearFaults s).settings = s.settings ∧ (clearFaults s).portA.queue = s.portA.queue ∧
    (clearFaults s).portA.counts = s.portA.counts ∧ (clearFaults s).portA.reply = s.portA.reply ∧
    (clearFaults s).portA.alarm = s.portA.alarm ∧ (clearFaults s).portA.occupancy = s.portA.occupancy ∧
    (clearFaults s).portB.queue = s.portB.queue ∧ (clearFaults s).portB.counts = s.portB.counts ∧
    (clearFaults s).portB.reply = s.portB.reply ∧ (clearFaults s).portB.alarm = s.portB.alarm ∧
    (clearFaults s).portB.occupancy = s.portB.occupancy ∧ (clearFaults s).table.entries = s.table.entries ∧
    (clearFaults s).table.inFlight = s.table.inFlight ∧ (clearFaults s).table.forced = s.table.forced ∧
    (clearFaults s).table.pointer = s.table.pointer ∧ (clearFaults s).table.moves = s.table.moves ∧
    (clearFaults s).table.conflicts = s.table.conflicts ∧ (clearFaults s).table.ownHeard = s.table.ownHeard ∧
    (clearFaults s).zones.units = s.zones.units ∧ (clearFaults s).zones.floor = s.zones.floor ∧
    (clearFaults s).burner.run = s.burner.run ∧ (clearFaults s).recovery.state = s.recovery.state ∧
    (clearFaults s).recovery.records = s.recovery.records ∧
    (clearFaults s).recovery.resetTimes = s.recovery.resetTimes ∧
    (clearFaults s).recovery.hardLatch = s.recovery.hardLatch ∧
    (clearFaults s).recovery.lockout = s.recovery.lockout ∧ (clearFaults s).recovery.suspend = s.recovery.suspend ∧
    (clearFaults s).tank = s.tank ∧ (clearFaults s).accounts = s.accounts ∧
    (clearFaults s).alarms.waiting = s.alarms.waiting ∧ (clearFaults s).alarms.sendTimes = s.alarms.sendTimes ∧
    (clearFaults s).mgmt = s.mgmt ∧ (clearFaults s).time = s.time ∧ (clearFaults s).store = s.store := by
  simp only [clearFaults]
  exact ⟨(forEach_keeps (fun t : State => t.pending) _ (fun _ _ => by simp [State.setRelay]) _ _).trans (by split <;> simp),
    (forEach_keeps (fun t : State => t.powered) _ (fun _ _ => by simp [State.setRelay]) _ _).trans (by split <;> simp),
    (forEach_keeps (fun t : State => t.free) _ (fun _ _ => by simp [State.setRelay]) _ _).trans (by split <;> simp),
    (forEach_keeps (fun t : State => t.settings) _ (fun _ _ => by simp [State.setRelay]) _ _).trans (by split <;> simp),
    (forEach_keeps (fun t : State => t.portA.queue) _ (fun _ _ => by simp [State.setRelay]) _ _).trans (by split <;> simp),
    (forEach_keeps (fun t : State => t.portA.counts) _ (fun _ _ => by simp [State.setRelay]) _ _).trans (by split <;> simp),
    (forEach_keeps (fun t : State => t.portA.reply) _ (fun _ _ => by simp [State.setRelay]) _ _).trans (by split <;> simp),
    (forEach_keeps (fun t : State => t.portA.alarm) _ (fun _ _ => by simp [State.setRelay]) _ _).trans (by split <;> simp),
    (forEach_keeps (fun t : State => t.portA.occupancy) _ (fun _ _ => by simp [State.setRelay]) _ _).trans (by split <;> simp),
    (forEach_keeps (fun t : State => t.portB.queue) _ (fun _ _ => by simp [State.setRelay]) _ _).trans (by split <;> simp),
    (forEach_keeps (fun t : State => t.portB.counts) _ (fun _ _ => by simp [State.setRelay]) _ _).trans (by split <;> simp),
    (forEach_keeps (fun t : State => t.portB.reply) _ (fun _ _ => by simp [State.setRelay]) _ _).trans (by split <;> simp),
    (forEach_keeps (fun t : State => t.portB.alarm) _ (fun _ _ => by simp [State.setRelay]) _ _).trans (by split <;> simp),
    (forEach_keeps (fun t : State => t.portB.occupancy) _ (fun _ _ => by simp [State.setRelay]) _ _).trans (by split <;> simp),
    (forEach_keeps (fun t : State => t.table.entries) _ (fun _ _ => by simp [State.setRelay]) _ _).trans (by split <;> simp),
    (forEach_keeps (fun t : State => t.table.inFlight) _ (fun _ _ => by simp [State.setRelay]) _ _).trans (by split <;> simp),
    (forEach_keeps (fun t : State => t.table.forced) _ (fun _ _ => by simp [State.setRelay]) _ _).trans (by split <;> simp),
    (forEach_keeps (fun t : State => t.table.pointer) _ (fun _ _ => by simp [State.setRelay]) _ _).trans (by split <;> simp),
    (forEach_keeps (fun t : State => t.table.moves) _ (fun _ _ => by simp [State.setRelay]) _ _).trans (by split <;> simp),
    (forEach_keeps (fun t : State => t.table.conflicts) _ (fun _ _ => by simp [State.setRelay]) _ _).trans (by split <;> simp),
    (forEach_keeps (fun t : State => t.table.ownHeard) _ (fun _ _ => by simp [State.setRelay]) _ _).trans (by split <;> simp),
    (forEach_keeps (fun t : State => t.zones.units) _ (fun _ _ => by simp [State.setRelay]) _ _).trans (by split <;> simp),
    (forEach_keeps (fun t : State => t.zones.floor) _ (fun _ _ => by simp [State.setRelay]) _ _).trans (by split <;> simp),
    (forEach_keeps (fun t : State => t.burner.run) _ (fun _ _ => by simp [State.setRelay]) _ _).trans (by split <;> simp),
    (forEach_keeps (fun t : State => t.recovery.state) _ (fun _ _ => by simp [State.setRelay]) _ _).trans (by split <;> simp),
    (forEach_keeps (fun t : State => t.recovery.records) _ (fun _ _ => by simp [State.setRelay]) _ _).trans (by split <;> simp),
    (forEach_keeps (fun t : State => t.recovery.resetTimes) _ (fun _ _ => by simp [State.setRelay]) _ _).trans (by split <;> simp),
    (forEach_keeps (fun t : State => t.recovery.hardLatch) _ (fun _ _ => by simp [State.setRelay]) _ _).trans (by split <;> simp),
    (forEach_keeps (fun t : State => t.recovery.lockout) _ (fun _ _ => by simp [State.setRelay]) _ _).trans (by split <;> simp),
    (forEach_keeps (fun t : State => t.recovery.suspend) _ (fun _ _ => by simp [State.setRelay]) _ _).trans (by split <;> simp),
    (forEach_keeps (fun t : State => t.tank) _ (fun _ _ => by simp [State.setRelay]) _ _).trans (by split <;> simp),
    (forEach_keeps (fun t : State => t.accounts) _ (fun _ _ => by simp [State.setRelay]) _ _).trans (by split <;> simp),
    (forEach_keeps (fun t : State => t.alarms.waiting) _ (fun _ _ => by simp [State.setRelay]) _ _).trans (by split <;> simp),
    (forEach_keeps (fun t : State => t.alarms.sendTimes) _ (fun _ _ => by simp [State.setRelay]) _ _).trans (by split <;> simp),
    (forEach_keeps (fun t : State => t.mgmt) _ (fun _ _ => by simp [State.setRelay]) _ _).trans (by split <;> simp),
    (forEach_keeps (fun t : State => t.time) _ (fun _ _ => by simp [State.setRelay]) _ _).trans (by split <;> simp),
    (forEach_keeps (fun t : State => t.store) _ (fun _ _ => by simp [State.setRelay]) _ _).trans (by split <;> simp)⟩

end Sys2Proof.Machine
end

