-- ==== Sys2Proof/Laws/FramesTank.lean ====
section
/-! SUPPORT. What each shared operation of the fuel accounts and the tank gauge leaves as it stands: everything but
what the lemma does not name. -/

namespace Sys2Proof.Machine

variable (s : State)

@[simp] theorem takeDelivery_frame (m b : Nat) :
    (takeDelivery m b s).pending = s.pending ∧ (takeDelivery m b s).powered = s.powered ∧
    (takeDelivery m b s).free = s.free ∧ (takeDelivery m b s).settings = s.settings ∧
    (takeDelivery m b s).portA = s.portA ∧ (takeDelivery m b s).portB = s.portB ∧
    (takeDelivery m b s).ownSeq = s.ownSeq ∧ (takeDelivery m b s).table = s.table ∧
    (takeDelivery m b s).zones = s.zones ∧ (takeDelivery m b s).burner = s.burner ∧
    (takeDelivery m b s).recovery = s.recovery ∧ (takeDelivery m b s).tank = s.tank ∧
    (takeDelivery m b s).sampler = s.sampler ∧ (takeDelivery m b s).monitor = s.monitor ∧
    (takeDelivery m b s).alarms.sendTimes = s.alarms.sendTimes ∧ (takeDelivery m b s).mgmt = s.mgmt ∧
    (takeDelivery m b s).time = s.time ∧ (takeDelivery m b s).store = s.store := by
  simp only [takeDelivery]; (repeat' split) <;> simp

@[simp] theorem leakStrike_frame (m b : Nat) :
    (leakStrike m b s).pending = s.pending ∧ (leakStrike m b s).powered = s.powered ∧
    (leakStrike m b s).free = s.free ∧ (leakStrike m b s).settings = s.settings ∧
    (leakStrike m b s).portA.queue = s.portA.queue ∧ (leakStrike m b s).portA.counts = s.portA.counts ∧
    (leakStrike m b s).portA.reply = s.portA.reply ∧ (leakStrike m b s).portA.alarm = s.portA.alarm ∧
    (leakStrike m b s).portA.occupancy = s.portA.occupancy ∧ (leakStrike m b s).portB.queue = s.portB.queue ∧
    (leakStrike m b s).portB.counts = s.portB.counts ∧ (leakStrike m b s).portB.reply = s.portB.reply ∧
    (leakStrike m b s).portB.alarm = s.portB.alarm ∧ (leakStrike m b s).portB.occupancy = s.portB.occupancy ∧
    (leakStrike m b s).table.entries = s.table.entries ∧ (leakStrike m b s).table.inFlight = s.table.inFlight ∧
    (leakStrike m b s).table.forced = s.table.forced ∧ (leakStrike m b s).table.pointer = s.table.pointer ∧
    (leakStrike m b s).table.moves = s.table.moves ∧ (leakStrike m b s).table.conflicts = s.table.conflicts ∧
    (leakStrike m b s).table.ownHeard = s.table.ownHeard ∧ (leakStrike m b s).zones.zones = s.zones.zones ∧
    (leakStrike m b s).zones.units = s.zones.units ∧ (leakStrike m b s).zones.valves = s.zones.valves ∧
    (leakStrike m b s).zones.floor = s.zones.floor ∧ (leakStrike m b s).zones.demand = s.zones.demand ∧
    (leakStrike m b s).burner.demand = s.burner.demand ∧ (leakStrike m b s).burner.run = s.burner.run ∧
    (leakStrike m b s).burner.startTimes = s.burner.startTimes ∧
    (leakStrike m b s).recovery.records = s.recovery.records ∧
    (leakStrike m b s).recovery.resetTimes = s.recovery.resetTimes ∧
    (leakStrike m b s).recovery.lockout = s.recovery.lockout ∧ (leakStrike m b s).tank = s.tank ∧
    (leakStrike m b s).sampler.counters = s.sampler.counters ∧
    (leakStrike m b s).alarms.sendTimes = s.alarms.sendTimes ∧ (leakStrike m b s).mgmt = s.mgmt ∧
    (leakStrike m b s).time = s.time ∧ (leakStrike m b s).store.settings = s.store.settings ∧
    (leakStrike m b s).store.running = s.store.running ∧
    (leakStrike m b s).store.settingsPending = s.store.settingsPending ∧
    (leakStrike m b s).store.settingsFailed = s.store.settingsFailed ∧
    (leakStrike m b s).store.runningFailed = s.store.runningFailed := by
  simp only [leakStrike]; (repeat' split) <;> simp

@[simp] theorem judgeVolume_frame (m : Nat) :
    (judgeVolume m s).pending = s.pending ∧ (judgeVolume m s).powered = s.powered ∧
    (judgeVolume m s).free = s.free ∧ (judgeVolume m s).settings = s.settings ∧
    (judgeVolume m s).portA.queue = s.portA.queue ∧ (judgeVolume m s).portA.counts = s.portA.counts ∧
    (judgeVolume m s).portA.reply = s.portA.reply ∧ (judgeVolume m s).portA.alarm = s.portA.alarm ∧
    (judgeVolume m s).portA.occupancy = s.portA.occupancy ∧ (judgeVolume m s).portB.queue = s.portB.queue ∧
    (judgeVolume m s).portB.counts = s.portB.counts ∧ (judgeVolume m s).portB.reply = s.portB.reply ∧
    (judgeVolume m s).portB.alarm = s.portB.alarm ∧ (judgeVolume m s).portB.occupancy = s.portB.occupancy ∧
    (judgeVolume m s).table.entries = s.table.entries ∧ (judgeVolume m s).table.inFlight = s.table.inFlight ∧
    (judgeVolume m s).table.forced = s.table.forced ∧ (judgeVolume m s).table.pointer = s.table.pointer ∧
    (judgeVolume m s).table.moves = s.table.moves ∧ (judgeVolume m s).table.conflicts = s.table.conflicts ∧
    (judgeVolume m s).table.ownHeard = s.table.ownHeard ∧ (judgeVolume m s).zones.zones = s.zones.zones ∧
    (judgeVolume m s).zones.units = s.zones.units ∧ (judgeVolume m s).zones.valves = s.zones.valves ∧
    (judgeVolume m s).zones.floor = s.zones.floor ∧ (judgeVolume m s).zones.demand = s.zones.demand ∧
    (judgeVolume m s).burner.demand = s.burner.demand ∧ (judgeVolume m s).burner.run = s.burner.run ∧
    (judgeVolume m s).burner.startTimes = s.burner.startTimes ∧
    (judgeVolume m s).recovery.records = s.recovery.records ∧
    (judgeVolume m s).recovery.resetTimes = s.recovery.resetTimes ∧
    (judgeVolume m s).recovery.lockout = s.recovery.lockout ∧ (judgeVolume m s).tank = s.tank ∧
    (judgeVolume m s).sampler.counters = s.sampler.counters ∧
    (judgeVolume m s).alarms.sendTimes = s.alarms.sendTimes ∧ (judgeVolume m s).mgmt = s.mgmt ∧
    (judgeVolume m s).time = s.time ∧ (judgeVolume m s).store.settings = s.store.settings ∧
    (judgeVolume m s).store.running = s.store.running ∧
    (judgeVolume m s).store.settingsPending = s.store.settingsPending ∧
    (judgeVolume m s).store.settingsFailed = s.store.settingsFailed ∧
    (judgeVolume m s).store.runningFailed = s.store.runningFailed := by
  simp only [judgeVolume]; (repeat' split) <;> simp

@[simp] theorem reconcile_frame (m : Nat) :
    (reconcile m s).pending = s.pending ∧ (reconcile m s).powered = s.powered ∧ (reconcile m s).free = s.free ∧
    (reconcile m s).settings = s.settings ∧ (reconcile m s).portA.queue = s.portA.queue ∧
    (reconcile m s).portA.counts = s.portA.counts ∧ (reconcile m s).portA.reply = s.portA.reply ∧
    (reconcile m s).portA.alarm = s.portA.alarm ∧ (reconcile m s).portA.occupancy = s.portA.occupancy ∧
    (reconcile m s).portB.queue = s.portB.queue ∧ (reconcile m s).portB.counts = s.portB.counts ∧
    (reconcile m s).portB.reply = s.portB.reply ∧ (reconcile m s).portB.alarm = s.portB.alarm ∧
    (reconcile m s).portB.occupancy = s.portB.occupancy ∧ (reconcile m s).table.entries = s.table.entries ∧
    (reconcile m s).table.inFlight = s.table.inFlight ∧ (reconcile m s).table.forced = s.table.forced ∧
    (reconcile m s).table.pointer = s.table.pointer ∧ (reconcile m s).table.moves = s.table.moves ∧
    (reconcile m s).table.conflicts = s.table.conflicts ∧ (reconcile m s).table.ownHeard = s.table.ownHeard ∧
    (reconcile m s).zones.zones = s.zones.zones ∧ (reconcile m s).zones.units = s.zones.units ∧
    (reconcile m s).zones.valves = s.zones.valves ∧ (reconcile m s).zones.floor = s.zones.floor ∧
    (reconcile m s).zones.demand = s.zones.demand ∧ (reconcile m s).burner.demand = s.burner.demand ∧
    (reconcile m s).burner.run = s.burner.run ∧ (reconcile m s).burner.startTimes = s.burner.startTimes ∧
    (reconcile m s).recovery.records = s.recovery.records ∧
    (reconcile m s).recovery.resetTimes = s.recovery.resetTimes ∧
    (reconcile m s).recovery.lockout = s.recovery.lockout ∧ (reconcile m s).tank = s.tank ∧
    (reconcile m s).sampler.counters = s.sampler.counters ∧ (reconcile m s).alarms.sendTimes = s.alarms.sendTimes ∧
    (reconcile m s).mgmt = s.mgmt ∧ (reconcile m s).time = s.time ∧
    (reconcile m s).store.settings = s.store.settings ∧ (reconcile m s).store.running = s.store.running ∧
    (reconcile m s).store.settingsPending = s.store.settingsPending ∧
    (reconcile m s).store.settingsFailed = s.store.settingsFailed ∧
    (reconcile m s).store.runningFailed = s.store.runningFailed := by
  simp only [reconcile]; (repeat' split) <;> simp

@[simp] theorem accountsTold_frame (v : Option Nat) :
    (accountsTold v s).pending = s.pending ∧ (accountsTold v s).powered = s.powered ∧
    (accountsTold v s).free = s.free ∧ (accountsTold v s).settings = s.settings ∧
    (accountsTold v s).portA.queue = s.portA.queue ∧ (accountsTold v s).portA.counts = s.portA.counts ∧
    (accountsTold v s).portA.reply = s.portA.reply ∧ (accountsTold v s).portA.alarm = s.portA.alarm ∧
    (accountsTold v s).portA.occupancy = s.portA.occupancy ∧ (accountsTold v s).portB.queue = s.portB.queue ∧
    (accountsTold v s).portB.counts = s.portB.counts ∧ (accountsTold v s).portB.reply = s.portB.reply ∧
    (accountsTold v s).portB.alarm = s.portB.alarm ∧ (accountsTold v s).portB.occupancy = s.portB.occupancy ∧
    (accountsTold v s).table.entries = s.table.entries ∧ (accountsTold v s).table.inFlight = s.table.inFlight ∧
    (accountsTold v s).table.forced = s.table.forced ∧ (accountsTold v s).table.pointer = s.table.pointer ∧
    (accountsTold v s).table.moves = s.table.moves ∧ (accountsTold v s).table.conflicts = s.table.conflicts ∧
    (accountsTold v s).table.ownHeard = s.table.ownHeard ∧ (accountsTold v s).zones.zones = s.zones.zones ∧
    (accountsTold v s).zones.units = s.zones.units ∧ (accountsTold v s).zones.valves = s.zones.valves ∧
    (accountsTold v s).zones.floor = s.zones.floor ∧ (accountsTold v s).zones.demand = s.zones.demand ∧
    (accountsTold v s).burner.demand = s.burner.demand ∧ (accountsTold v s).burner.run = s.burner.run ∧
    (accountsTold v s).burner.startTimes = s.burner.startTimes ∧
    (accountsTold v s).recovery.records = s.recovery.records ∧
    (accountsTold v s).recovery.resetTimes = s.recovery.resetTimes ∧
    (accountsTold v s).recovery.lockout = s.recovery.lockout ∧ (accountsTold v s).tank = s.tank ∧
    (accountsTold v s).sampler.counters = s.sampler.counters ∧
    (accountsTold v s).alarms.sendTimes = s.alarms.sendTimes ∧ (accountsTold v s).mgmt = s.mgmt ∧
    (accountsTold v s).time = s.time ∧ (accountsTold v s).store.settings = s.store.settings ∧
    (accountsTold v s).store.running = s.store.running ∧
    (accountsTold v s).store.settingsPending = s.store.settingsPending ∧
    (accountsTold v s).store.settingsFailed = s.store.settingsFailed ∧
    (accountsTold v s).store.runningFailed = s.store.runningFailed := by
  simp only [accountsTold]; (repeat' split) <;> simp

@[simp] theorem acknowledgeLeak_frame :
    (acknowledgeLeak s).pending = s.pending ∧ (acknowledgeLeak s).powered = s.powered ∧
    (acknowledgeLeak s).free = s.free ∧ (acknowledgeLeak s).settings = s.settings ∧
    (acknowledgeLeak s).portA.queue = s.portA.queue ∧ (acknowledgeLeak s).portA.counts = s.portA.counts ∧
    (acknowledgeLeak s).portA.reply = s.portA.reply ∧ (acknowledgeLeak s).portA.alarm = s.portA.alarm ∧
    (acknowledgeLeak s).portA.occupancy = s.portA.occupancy ∧ (acknowledgeLeak s).portB.queue = s.portB.queue ∧
    (acknowledgeLeak s).portB.counts = s.portB.counts ∧ (acknowledgeLeak s).portB.reply = s.portB.reply ∧
    (acknowledgeLeak s).portB.alarm = s.portB.alarm ∧ (acknowledgeLeak s).portB.occupancy = s.portB.occupancy ∧
    (acknowledgeLeak s).table.entries = s.table.entries ∧ (acknowledgeLeak s).table.inFlight = s.table.inFlight ∧
    (acknowledgeLeak s).table.forced = s.table.forced ∧ (acknowledgeLeak s).table.pointer = s.table.pointer ∧
    (acknowledgeLeak s).table.moves = s.table.moves ∧ (acknowledgeLeak s).table.conflicts = s.table.conflicts ∧
    (acknowledgeLeak s).table.ownHeard = s.table.ownHeard ∧ (acknowledgeLeak s).zones.zones = s.zones.zones ∧
    (acknowledgeLeak s).zones.units = s.zones.units ∧ (acknowledgeLeak s).zones.valves = s.zones.valves ∧
    (acknowledgeLeak s).zones.floor = s.zones.floor ∧ (acknowledgeLeak s).zones.demand = s.zones.demand ∧
    (acknowledgeLeak s).burner.demand = s.burner.demand ∧ (acknowledgeLeak s).burner.run = s.burner.run ∧
    (acknowledgeLeak s).burner.startTimes = s.burner.startTimes ∧
    (acknowledgeLeak s).recovery.records = s.recovery.records ∧
    (acknowledgeLeak s).recovery.resetTimes = s.recovery.resetTimes ∧
    (acknowledgeLeak s).recovery.lockout = s.recovery.lockout ∧ (acknowledgeLeak s).tank = s.tank ∧
    (acknowledgeLeak s).sampler.counters = s.sampler.counters ∧
    (acknowledgeLeak s).alarms.sendTimes = s.alarms.sendTimes ∧ (acknowledgeLeak s).mgmt = s.mgmt ∧
    (acknowledgeLeak s).time = s.time ∧ (acknowledgeLeak s).store.settings = s.store.settings ∧
    (acknowledgeLeak s).store.running = s.store.running ∧
    (acknowledgeLeak s).store.settingsPending = s.store.settingsPending ∧
    (acknowledgeLeak s).store.settingsFailed = s.store.settingsFailed ∧
    (acknowledgeLeak s).store.runningFailed = s.store.runningFailed := by
  simp only [acknowledgeLeak]; (repeat' split) <;> simp

@[simp] theorem raiseEntry_frame (c : UnknownCause) (l : Option Nat) (x y : TankState) :
    (raiseEntry c l x y s).pending = s.pending ∧ (raiseEntry c l x y s).powered = s.powered ∧
    (raiseEntry c l x y s).free = s.free ∧ (raiseEntry c l x y s).settings = s.settings ∧
    (raiseEntry c l x y s).portA = s.portA ∧ (raiseEntry c l x y s).portB = s.portB ∧
    (raiseEntry c l x y s).ownSeq = s.ownSeq ∧ (raiseEntry c l x y s).table = s.table ∧
    (raiseEntry c l x y s).zones = s.zones ∧ (raiseEntry c l x y s).burner = s.burner ∧
    (raiseEntry c l x y s).recovery = s.recovery ∧ (raiseEntry c l x y s).tank = s.tank ∧
    (raiseEntry c l x y s).accounts = s.accounts ∧ (raiseEntry c l x y s).sampler = s.sampler ∧
    (raiseEntry c l x y s).monitor = s.monitor ∧ (raiseEntry c l x y s).alarms.sendTimes = s.alarms.sendTimes ∧
    (raiseEntry c l x y s).mgmt = s.mgmt ∧ (raiseEntry c l x y s).time = s.time ∧
    (raiseEntry c l x y s).store = s.store := by
  simp only [raiseEntry]; (repeat' split) <;> simp

@[simp] theorem enterTank_frame (c : UnknownCause) (l : Option Nat) (x : TankState) :
    (enterTank c l x s).pending = s.pending ∧ (enterTank c l x s).powered = s.powered ∧
    (enterTank c l x s).free = s.free ∧ (enterTank c l x s).settings = s.settings ∧
    (enterTank c l x s).portA.queue = s.portA.queue ∧ (enterTank c l x s).portA.counts = s.portA.counts ∧
    (enterTank c l x s).portA.reply = s.portA.reply ∧ (enterTank c l x s).portA.alarm = s.portA.alarm ∧
    (enterTank c l x s).portA.occupancy = s.portA.occupancy ∧ (enterTank c l x s).portB.queue = s.portB.queue ∧
    (enterTank c l x s).portB.counts = s.portB.counts ∧ (enterTank c l x s).portB.reply = s.portB.reply ∧
    (enterTank c l x s).portB.alarm = s.portB.alarm ∧ (enterTank c l x s).portB.occupancy = s.portB.occupancy ∧
    (enterTank c l x s).table.entries = s.table.entries ∧ (enterTank c l x s).table.inFlight = s.table.inFlight ∧
    (enterTank c l x s).table.forced = s.table.forced ∧ (enterTank c l x s).table.pointer = s.table.pointer ∧
    (enterTank c l x s).table.moves = s.table.moves ∧ (enterTank c l x s).table.conflicts = s.table.conflicts ∧
    (enterTank c l x s).table.ownHeard = s.table.ownHeard ∧ (enterTank c l x s).zones.units = s.zones.units ∧
    (enterTank c l x s).burner.run = s.burner.run ∧ (enterTank c l x s).recovery.lockout = s.recovery.lockout ∧
    (enterTank c l x s).accounts = s.accounts ∧ (enterTank c l x s).alarms.sendTimes = s.alarms.sendTimes ∧
    (enterTank c l x s).mgmt = s.mgmt ∧ (enterTank c l x s).time = s.time ∧
    (enterTank c l x s).store.settings = s.store.settings ∧ (enterTank c l x s).store.running = s.store.running ∧
    (enterTank c l x s).store.settingsPending = s.store.settingsPending ∧
    (enterTank c l x s).store.settingsFailed = s.store.settingsFailed ∧
    (enterTank c l x s).store.runningFailed = s.store.runningFailed := by
  simp only [enterTank]; (repeat' split) <;> simp

@[simp] theorem reclassify_frame (c : UnknownCause) (l : Option Nat) :
    (reclassify c l s).pending = s.pending ∧ (reclassify c l s).powered = s.powered ∧
    (reclassify c l s).free = s.free ∧ (reclassify c l s).settings = s.settings ∧
    (reclassify c l s).portA.queue = s.portA.queue ∧ (reclassify c l s).portA.counts = s.portA.counts ∧
    (reclassify c l s).portA.reply = s.portA.reply ∧ (reclassify c l s).portA.alarm = s.portA.alarm ∧
    (reclassify c l s).portA.occupancy = s.portA.occupancy ∧ (reclassify c l s).portB.queue = s.portB.queue ∧
    (reclassify c l s).portB.counts = s.portB.counts ∧ (reclassify c l s).portB.reply = s.portB.reply ∧
    (reclassify c l s).portB.alarm = s.portB.alarm ∧ (reclassify c l s).portB.occupancy = s.portB.occupancy ∧
    (reclassify c l s).table.entries = s.table.entries ∧ (reclassify c l s).table.inFlight = s.table.inFlight ∧
    (reclassify c l s).table.forced = s.table.forced ∧ (reclassify c l s).table.pointer = s.table.pointer ∧
    (reclassify c l s).table.moves = s.table.moves ∧ (reclassify c l s).table.conflicts = s.table.conflicts ∧
    (reclassify c l s).table.ownHeard = s.table.ownHeard ∧ (reclassify c l s).zones.units = s.zones.units ∧
    (reclassify c l s).burner.run = s.burner.run ∧ (reclassify c l s).recovery.lockout = s.recovery.lockout ∧
    (reclassify c l s).accounts = s.accounts ∧ (reclassify c l s).alarms.sendTimes = s.alarms.sendTimes ∧
    (reclassify c l s).mgmt = s.mgmt ∧ (reclassify c l s).time = s.time ∧
    (reclassify c l s).store.settings = s.store.settings ∧ (reclassify c l s).store.running = s.store.running ∧
    (reclassify c l s).store.settingsPending = s.store.settingsPending ∧
    (reclassify c l s).store.settingsFailed = s.store.settingsFailed ∧
    (reclassify c l s).store.runningFailed = s.store.runningFailed := by
  simp only [reclassify]; (repeat' split) <;> simp

@[simp] theorem recomputeVolume_frame (c : UnknownCause) :
    (recomputeVolume c s).pending = s.pending ∧ (recomputeVolume c s).powered = s.powered ∧
    (recomputeVolume c s).free = s.free ∧ (recomputeVolume c s).settings = s.settings ∧
    (recomputeVolume c s).portA.queue = s.portA.queue ∧ (recomputeVolume c s).portA.counts = s.portA.counts ∧
    (recomputeVolume c s).portA.reply = s.portA.reply ∧ (recomputeVolume c s).portA.alarm = s.portA.alarm ∧
    (recomputeVolume c s).portA.occupancy = s.portA.occupancy ∧ (recomputeVolume c s).portB.queue = s.portB.queue ∧
    (recomputeVolume c s).portB.counts = s.portB.counts ∧ (recomputeVolume c s).portB.reply = s.portB.reply ∧
    (recomputeVolume c s).portB.alarm = s.portB.alarm ∧ (recomputeVolume c s).portB.occupancy = s.portB.occupancy ∧
    (recomputeVolume c s).table.entries = s.table.entries ∧
    (recomputeVolume c s).table.inFlight = s.table.inFlight ∧ (recomputeVolume c s).table.forced = s.table.forced ∧
    (recomputeVolume c s).table.pointer = s.table.pointer ∧ (recomputeVolume c s).table.moves = s.table.moves ∧
    (recomputeVolume c s).table.conflicts = s.table.conflicts ∧
    (recomputeVolume c s).table.ownHeard = s.table.ownHeard ∧ (recomputeVolume c s).zones.units = s.zones.units ∧
    (recomputeVolume c s).burner.run = s.burner.run ∧ (recomputeVolume c s).recovery.lockout = s.recovery.lockout ∧
    (recomputeVolume c s).alarms.sendTimes = s.alarms.sendTimes ∧ (recomputeVolume c s).mgmt = s.mgmt ∧
    (recomputeVolume c s).time = s.time ∧ (recomputeVolume c s).store.settings = s.store.settings ∧
    (recomputeVolume c s).store.running = s.store.running ∧
    (recomputeVolume c s).store.settingsPending = s.store.settingsPending ∧
    (recomputeVolume c s).store.settingsFailed = s.store.settingsFailed ∧
    (recomputeVolume c s).store.runningFailed = s.store.runningFailed := by
  simp only [recomputeVolume]; (repeat' split) <;> simp

@[simp] theorem retestTable_frame (c : UnknownCause) :
    (retestTable c s).pending = s.pending ∧ (retestTable c s).powered = s.powered ∧
    (retestTable c s).free = s.free ∧ (retestTable c s).settings = s.settings ∧
    (retestTable c s).portA.queue = s.portA.queue ∧ (retestTable c s).portA.counts = s.portA.counts ∧
    (retestTable c s).portA.reply = s.portA.reply ∧ (retestTable c s).portA.alarm = s.portA.alarm ∧
    (retestTable c s).portA.occupancy = s.portA.occupancy ∧ (retestTable c s).portB.queue = s.portB.queue ∧
    (retestTable c s).portB.counts = s.portB.counts ∧ (retestTable c s).portB.reply = s.portB.reply ∧
    (retestTable c s).portB.alarm = s.portB.alarm ∧ (retestTable c s).portB.occupancy = s.portB.occupancy ∧
    (retestTable c s).table.entries = s.table.entries ∧ (retestTable c s).table.inFlight = s.table.inFlight ∧
    (retestTable c s).table.forced = s.table.forced ∧ (retestTable c s).table.pointer = s.table.pointer ∧
    (retestTable c s).table.moves = s.table.moves ∧ (retestTable c s).table.conflicts = s.table.conflicts ∧
    (retestTable c s).table.ownHeard = s.table.ownHeard ∧ (retestTable c s).zones.units = s.zones.units ∧
    (retestTable c s).burner.run = s.burner.run ∧ (retestTable c s).recovery.lockout = s.recovery.lockout ∧
    (retestTable c s).alarms.sendTimes = s.alarms.sendTimes ∧ (retestTable c s).mgmt = s.mgmt ∧
    (retestTable c s).time = s.time ∧ (retestTable c s).store.settings = s.store.settings ∧
    (retestTable c s).store.running = s.store.running ∧
    (retestTable c s).store.settingsPending = s.store.settingsPending ∧
    (retestTable c s).store.settingsFailed = s.store.settingsFailed ∧
    (retestTable c s).store.runningFailed = s.store.runningFailed := by
  simp only [retestTable]; (repeat' split) <;> simp

@[simp] theorem enterLevels_frame (l : List Nat) :
    (enterLevels l s).pending = s.pending ∧ (enterLevels l s).powered = s.powered ∧
    (enterLevels l s).free = s.free ∧ (enterLevels l s).settings = s.settings ∧
    (enterLevels l s).portA.queue = s.portA.queue ∧ (enterLevels l s).portA.counts = s.portA.counts ∧
    (enterLevels l s).portA.reply = s.portA.reply ∧ (enterLevels l s).portA.alarm = s.portA.alarm ∧
    (enterLevels l s).portA.occupancy = s.portA.occupancy ∧ (enterLevels l s).portB.queue = s.portB.queue ∧
    (enterLevels l s).portB.counts = s.portB.counts ∧ (enterLevels l s).portB.reply = s.portB.reply ∧
    (enterLevels l s).portB.alarm = s.portB.alarm ∧ (enterLevels l s).portB.occupancy = s.portB.occupancy ∧
    (enterLevels l s).table.entries = s.table.entries ∧ (enterLevels l s).table.inFlight = s.table.inFlight ∧
    (enterLevels l s).table.forced = s.table.forced ∧ (enterLevels l s).table.pointer = s.table.pointer ∧
    (enterLevels l s).table.moves = s.table.moves ∧ (enterLevels l s).table.conflicts = s.table.conflicts ∧
    (enterLevels l s).table.ownHeard = s.table.ownHeard ∧ (enterLevels l s).zones.units = s.zones.units ∧
    (enterLevels l s).burner.run = s.burner.run ∧ (enterLevels l s).recovery.lockout = s.recovery.lockout ∧
    (enterLevels l s).alarms.sendTimes = s.alarms.sendTimes ∧ (enterLevels l s).mgmt = s.mgmt ∧
    (enterLevels l s).time = s.time ∧ (enterLevels l s).store.settings = s.store.settings ∧
    (enterLevels l s).store.running = s.store.running ∧
    (enterLevels l s).store.settingsPending = s.store.settingsPending ∧
    (enterLevels l s).store.settingsFailed = s.store.settingsFailed ∧
    (enterLevels l s).store.runningFailed = s.store.runningFailed := by
  simp only [enterLevels]; (repeat' split) <;> simp

@[simp] theorem judgeLevel_frame (h : Nat) :
    (judgeLevel h s).pending = s.pending ∧ (judgeLevel h s).powered = s.powered ∧ (judgeLevel h s).free = s.free ∧
    (judgeLevel h s).settings = s.settings ∧ (judgeLevel h s).portA.queue = s.portA.queue ∧
    (judgeLevel h s).portA.counts = s.portA.counts ∧ (judgeLevel h s).portA.reply = s.portA.reply ∧
    (judgeLevel h s).portA.alarm = s.portA.alarm ∧ (judgeLevel h s).portA.occupancy = s.portA.occupancy ∧
    (judgeLevel h s).portB.queue = s.portB.queue ∧ (judgeLevel h s).portB.counts = s.portB.counts ∧
    (judgeLevel h s).portB.reply = s.portB.reply ∧ (judgeLevel h s).portB.alarm = s.portB.alarm ∧
    (judgeLevel h s).portB.occupancy = s.portB.occupancy ∧ (judgeLevel h s).table.entries = s.table.entries ∧
    (judgeLevel h s).table.inFlight = s.table.inFlight ∧ (judgeLevel h s).table.forced = s.table.forced ∧
    (judgeLevel h s).table.pointer = s.table.pointer ∧ (judgeLevel h s).table.moves = s.table.moves ∧
    (judgeLevel h s).table.conflicts = s.table.conflicts ∧ (judgeLevel h s).table.ownHeard = s.table.ownHeard ∧
    (judgeLevel h s).zones.units = s.zones.units ∧ (judgeLevel h s).burner.run = s.burner.run ∧
    (judgeLevel h s).recovery.lockout = s.recovery.lockout ∧
    (judgeLevel h s).alarms.sendTimes = s.alarms.sendTimes ∧ (judgeLevel h s).mgmt = s.mgmt ∧
    (judgeLevel h s).time = s.time ∧ (judgeLevel h s).store.settings = s.store.settings ∧
    (judgeLevel h s).store.running = s.store.running ∧
    (judgeLevel h s).store.settingsPending = s.store.settingsPending ∧
    (judgeLevel h s).store.settingsFailed = s.store.settingsFailed ∧
    (judgeLevel h s).store.runningFailed = s.store.runningFailed := by
  simp only [judgeLevel]; (repeat' split) <;> simp

@[simp] theorem plausibleLevel_frame (h : Nat) :
    (plausibleLevel h s).pending = s.pending ∧ (plausibleLevel h s).powered = s.powered ∧
    (plausibleLevel h s).free = s.free ∧ (plausibleLevel h s).settings = s.settings ∧
    (plausibleLevel h s).portA.queue = s.portA.queue ∧ (plausibleLevel h s).portA.counts = s.portA.counts ∧
    (plausibleLevel h s).portA.reply = s.portA.reply ∧ (plausibleLevel h s).portA.alarm = s.portA.alarm ∧
    (plausibleLevel h s).portA.occupancy = s.portA.occupancy ∧ (plausibleLevel h s).portB.queue = s.portB.queue ∧
    (plausibleLevel h s).portB.counts = s.portB.counts ∧ (plausibleLevel h s).portB.reply = s.portB.reply ∧
    (plausibleLevel h s).portB.alarm = s.portB.alarm ∧ (plausibleLevel h s).portB.occupancy = s.portB.occupancy ∧
    (plausibleLevel h s).table.entries = s.table.entries ∧ (plausibleLevel h s).table.inFlight = s.table.inFlight ∧
    (plausibleLevel h s).table.forced = s.table.forced ∧ (plausibleLevel h s).table.pointer = s.table.pointer ∧
    (plausibleLevel h s).table.moves = s.table.moves ∧ (plausibleLevel h s).table.conflicts = s.table.conflicts ∧
    (plausibleLevel h s).table.ownHeard = s.table.ownHeard ∧ (plausibleLevel h s).zones.units = s.zones.units ∧
    (plausibleLevel h s).burner.run = s.burner.run ∧ (plausibleLevel h s).recovery.lockout = s.recovery.lockout ∧
    (plausibleLevel h s).alarms.sendTimes = s.alarms.sendTimes ∧ (plausibleLevel h s).mgmt = s.mgmt ∧
    (plausibleLevel h s).time = s.time ∧ (plausibleLevel h s).store.settings = s.store.settings ∧
    (plausibleLevel h s).store.running = s.store.running ∧
    (plausibleLevel h s).store.settingsPending = s.store.settingsPending ∧
    (plausibleLevel h s).store.settingsFailed = s.store.settingsFailed ∧
    (plausibleLevel h s).store.runningFailed = s.store.runningFailed := by
  simp only [plausibleLevel]; (repeat' split) <;> simp

@[simp] theorem takeLevel_frame (n : Nat) (f : Frame) :
    (takeLevel n f s).pending = s.pending ∧ (takeLevel n f s).powered = s.powered ∧
    (takeLevel n f s).free = s.free ∧ (takeLevel n f s).settings = s.settings ∧
    (takeLevel n f s).portA.queue = s.portA.queue ∧ (takeLevel n f s).portA.counts = s.portA.counts ∧
    (takeLevel n f s).portA.reply = s.portA.reply ∧ (takeLevel n f s).portA.alarm = s.portA.alarm ∧
    (takeLevel n f s).portA.occupancy = s.portA.occupancy ∧ (takeLevel n f s).portB.queue = s.portB.queue ∧
    (takeLevel n f s).portB.counts = s.portB.counts ∧ (takeLevel n f s).portB.reply = s.portB.reply ∧
    (takeLevel n f s).portB.alarm = s.portB.alarm ∧ (takeLevel n f s).portB.occupancy = s.portB.occupancy ∧
    (takeLevel n f s).table.entries = s.table.entries ∧ (takeLevel n f s).table.inFlight = s.table.inFlight ∧
    (takeLevel n f s).table.forced = s.table.forced ∧ (takeLevel n f s).table.pointer = s.table.pointer ∧
    (takeLevel n f s).table.moves = s.table.moves ∧ (takeLevel n f s).table.conflicts = s.table.conflicts ∧
    (takeLevel n f s).table.ownHeard = s.table.ownHeard ∧ (takeLevel n f s).zones.units = s.zones.units ∧
    (takeLevel n f s).burner.run = s.burner.run ∧ (takeLevel n f s).recovery.lockout = s.recovery.lockout ∧
    (takeLevel n f s).alarms.sendTimes = s.alarms.sendTimes ∧ (takeLevel n f s).mgmt = s.mgmt ∧
    (takeLevel n f s).time = s.time ∧ (takeLevel n f s).store.settings = s.store.settings ∧
    (takeLevel n f s).store.running = s.store.running ∧
    (takeLevel n f s).store.settingsPending = s.store.settingsPending ∧
    (takeLevel n f s).store.settingsFailed = s.store.settingsFailed ∧
    (takeLevel n f s).store.runningFailed = s.store.runningFailed := by
  simp only [takeLevel]; (repeat' split) <;> simp

@[simp] theorem emptyWindow_frame :
    (emptyWindow s).pending = s.pending ∧ (emptyWindow s).powered = s.powered ∧ (emptyWindow s).free = s.free ∧
    (emptyWindow s).settings = s.settings ∧ (emptyWindow s).portA = s.portA ∧ (emptyWindow s).portB = s.portB ∧
    (emptyWindow s).ownSeq = s.ownSeq ∧ (emptyWindow s).table = s.table ∧ (emptyWindow s).zones = s.zones ∧
    (emptyWindow s).burner = s.burner ∧ (emptyWindow s).recovery = s.recovery ∧
    (emptyWindow s).accounts = s.accounts ∧ (emptyWindow s).sampler = s.sampler ∧
    (emptyWindow s).monitor = s.monitor ∧ (emptyWindow s).alarms = s.alarms ∧ (emptyWindow s).mgmt = s.mgmt ∧
    (emptyWindow s).time = s.time ∧ (emptyWindow s).store = s.store := by
  simp only [emptyWindow]; (repeat' split) <;> simp

@[simp] theorem writeHeight_frame (h : Nat) :
    (writeHeight h s).pending = s.pending ∧ (writeHeight h s).powered = s.powered ∧
    (writeHeight h s).free = s.free ∧ (writeHeight h s).portA.queue = s.portA.queue ∧
    (writeHeight h s).portA.counts = s.portA.counts ∧ (writeHeight h s).portA.reply = s.portA.reply ∧
    (writeHeight h s).portA.alarm = s.portA.alarm ∧ (writeHeight h s).portA.occupancy = s.portA.occupancy ∧
    (writeHeight h s).portB.queue = s.portB.queue ∧ (writeHeight h s).portB.counts = s.portB.counts ∧
    (writeHeight h s).portB.reply = s.portB.reply ∧ (writeHeight h s).portB.alarm = s.portB.alarm ∧
    (writeHeight h s).portB.occupancy = s.portB.occupancy ∧ (writeHeight h s).table.entries = s.table.entries ∧
    (writeHeight h s).table.inFlight = s.table.inFlight ∧ (writeHeight h s).table.forced = s.table.forced ∧
    (writeHeight h s).table.pointer = s.table.pointer ∧ (writeHeight h s).table.moves = s.table.moves ∧
    (writeHeight h s).table.conflicts = s.table.conflicts ∧ (writeHeight h s).table.ownHeard = s.table.ownHeard ∧
    (writeHeight h s).zones.units = s.zones.units ∧ (writeHeight h s).burner.run = s.burner.run ∧
    (writeHeight h s).recovery.lockout = s.recovery.lockout ∧
    (writeHeight h s).alarms.sendTimes = s.alarms.sendTimes ∧ (writeHeight h s).mgmt = s.mgmt ∧
    (writeHeight h s).time = s.time ∧ (writeHeight h s).store.settings = s.store.settings ∧
    (writeHeight h s).store.running = s.store.running ∧
    (writeHeight h s).store.settingsPending = s.store.settingsPending ∧
    (writeHeight h s).store.settingsFailed = s.store.settingsFailed ∧
    (writeHeight h s).store.runningFailed = s.store.runningFailed := by
  simp only [writeHeight]; (repeat' split) <;> simp

@[simp] theorem writeSlot_frame (i : Fin 16) (f : StrapPoint → StrapPoint) :
    (writeSlot i f s).pending = s.pending ∧ (writeSlot i f s).powered = s.powered ∧
    (writeSlot i f s).free = s.free ∧ (writeSlot i f s).portA.queue = s.portA.queue ∧
    (writeSlot i f s).portA.counts = s.portA.counts ∧ (writeSlot i f s).portA.reply = s.portA.reply ∧
    (writeSlot i f s).portA.alarm = s.portA.alarm ∧ (writeSlot i f s).portA.occupancy = s.portA.occupancy ∧
    (writeSlot i f s).portB.queue = s.portB.queue ∧ (writeSlot i f s).portB.counts = s.portB.counts ∧
    (writeSlot i f s).portB.reply = s.portB.reply ∧ (writeSlot i f s).portB.alarm = s.portB.alarm ∧
    (writeSlot i f s).portB.occupancy = s.portB.occupancy ∧ (writeSlot i f s).table.entries = s.table.entries ∧
    (writeSlot i f s).table.inFlight = s.table.inFlight ∧ (writeSlot i f s).table.forced = s.table.forced ∧
    (writeSlot i f s).table.pointer = s.table.pointer ∧ (writeSlot i f s).table.moves = s.table.moves ∧
    (writeSlot i f s).table.conflicts = s.table.conflicts ∧ (writeSlot i f s).table.ownHeard = s.table.ownHeard ∧
    (writeSlot i f s).zones.units = s.zones.units ∧ (writeSlot i f s).burner.run = s.burner.run ∧
    (writeSlot i f s).recovery.lockout = s.recovery.lockout ∧
    (writeSlot i f s).alarms.sendTimes = s.alarms.sendTimes ∧ (writeSlot i f s).mgmt = s.mgmt ∧
    (writeSlot i f s).time = s.time ∧ (writeSlot i f s).store.settings = s.store.settings ∧
    (writeSlot i f s).store.running = s.store.running ∧
    (writeSlot i f s).store.settingsPending = s.store.settingsPending ∧
    (writeSlot i f s).store.settingsFailed = s.store.settingsFailed ∧
    (writeSlot i f s).store.runningFailed = s.store.runningFailed := by
  simp only [writeSlot]; (repeat' split) <;> simp

@[simp] theorem writePointCount_frame (n : Nat) :
    (writePointCount n s).pending = s.pending ∧ (writePointCount n s).powered = s.powered ∧
    (writePointCount n s).free = s.free ∧ (writePointCount n s).portA.queue = s.portA.queue ∧
    (writePointCount n s).portA.counts = s.portA.counts ∧ (writePointCount n s).portA.reply = s.portA.reply ∧
    (writePointCount n s).portA.alarm = s.portA.alarm ∧ (writePointCount n s).portA.occupancy = s.portA.occupancy ∧
    (writePointCount n s).portB.queue = s.portB.queue ∧ (writePointCount n s).portB.counts = s.portB.counts ∧
    (writePointCount n s).portB.reply = s.portB.reply ∧ (writePointCount n s).portB.alarm = s.portB.alarm ∧
    (writePointCount n s).portB.occupancy = s.portB.occupancy ∧
    (writePointCount n s).table.entries = s.table.entries ∧
    (writePointCount n s).table.inFlight = s.table.inFlight ∧ (writePointCount n s).table.forced = s.table.forced ∧
    (writePointCount n s).table.pointer = s.table.pointer ∧ (writePointCount n s).table.moves = s.table.moves ∧
    (writePointCount n s).table.conflicts = s.table.conflicts ∧
    (writePointCount n s).table.ownHeard = s.table.ownHeard ∧ (writePointCount n s).zones.units = s.zones.units ∧
    (writePointCount n s).burner.run = s.burner.run ∧ (writePointCount n s).recovery.lockout = s.recovery.lockout ∧
    (writePointCount n s).alarms.sendTimes = s.alarms.sendTimes ∧ (writePointCount n s).mgmt = s.mgmt ∧
    (writePointCount n s).time = s.time ∧ (writePointCount n s).store.settings = s.store.settings ∧
    (writePointCount n s).store.running = s.store.running ∧
    (writePointCount n s).store.settingsPending = s.store.settingsPending ∧
    (writePointCount n s).store.settingsFailed = s.store.settingsFailed ∧
    (writePointCount n s).store.runningFailed = s.store.runningFailed := by
  simp only [writePointCount]; (repeat' split) <;> simp

@[simp] theorem writeThreshold_frame (f : TankSettings → TankSettings) :
    (writeThreshold f s).pending = s.pending ∧ (writeThreshold f s).powered = s.powered ∧
    (writeThreshold f s).free = s.free ∧ (writeThreshold f s).portA.queue = s.portA.queue ∧
    (writeThreshold f s).portA.counts = s.portA.counts ∧ (writeThreshold f s).portA.reply = s.portA.reply ∧
    (writeThreshold f s).portA.alarm = s.portA.alarm ∧ (writeThreshold f s).portA.occupancy = s.portA.occupancy ∧
    (writeThreshold f s).portB.queue = s.portB.queue ∧ (writeThreshold f s).portB.counts = s.portB.counts ∧
    (writeThreshold f s).portB.reply = s.portB.reply ∧ (writeThreshold f s).portB.alarm = s.portB.alarm ∧
    (writeThreshold f s).portB.occupancy = s.portB.occupancy ∧
    (writeThreshold f s).table.entries = s.table.entries ∧ (writeThreshold f s).table.inFlight = s.table.inFlight ∧
    (writeThreshold f s).table.forced = s.table.forced ∧ (writeThreshold f s).table.pointer = s.table.pointer ∧
    (writeThreshold f s).table.moves = s.table.moves ∧ (writeThreshold f s).table.conflicts = s.table.conflicts ∧
    (writeThreshold f s).table.ownHeard = s.table.ownHeard ∧ (writeThreshold f s).zones.units = s.zones.units ∧
    (writeThreshold f s).burner.run = s.burner.run ∧ (writeThreshold f s).recovery.lockout = s.recovery.lockout ∧
    (writeThreshold f s).accounts = s.accounts ∧ (writeThreshold f s).alarms.sendTimes = s.alarms.sendTimes ∧
    (writeThreshold f s).mgmt = s.mgmt ∧ (writeThreshold f s).time = s.time ∧
    (writeThreshold f s).store.settings = s.store.settings ∧ (writeThreshold f s).store.running = s.store.running ∧
    (writeThreshold f s).store.settingsPending = s.store.settingsPending ∧
    (writeThreshold f s).store.settingsFailed = s.store.settingsFailed ∧
    (writeThreshold f s).store.runningFailed = s.store.runningFailed := by
  simp only [writeThreshold]; (repeat' split) <;> simp

end Sys2Proof.Machine
end

