-- ==== Sys2Proof/Laws/FramesStations.lean ====
section
/-! SUPPORT. What each shared operation of the station table leaves as it stands: everything but
what the lemma does not name. -/

namespace Sys2Proof.Machine

variable (s : State)

/-- Placing a POLL changes only the poll slots. -/
@[simp] theorem placePoll_frame (f : Frame) (p : Port) :
    (placePoll f p).occupancy = p.occupancy ∧ (placePoll f p).reply = p.reply ∧ (placePoll f p).alarm = p.alarm ∧
    (placePoll f p).status = p.status ∧ (placePoll f p).queue = p.queue ∧ (placePoll f p).counts = p.counts := by
  simp only [placePoll]; split <;> simp

/-- Withdrawing a copy changes only the poll slots. -/
@[simp] theorem withdrawCopy_frame (p : Port) :
    (withdrawCopy p).occupancy = p.occupancy ∧ (withdrawCopy p).reply = p.reply ∧ (withdrawCopy p).alarm = p.alarm ∧
    (withdrawCopy p).status = p.status ∧ (withdrawCopy p).queue = p.queue ∧ (withdrawCopy p).counts = p.counts := by
  simp only [withdrawCopy]; (repeat' split) <;> simp

@[simp] theorem classReported_frame (a : Addr) :
    (classReported a s).pending = s.pending ∧ (classReported a s).powered = s.powered ∧
    (classReported a s).free = s.free ∧ (classReported a s).settings = s.settings ∧
    (classReported a s).portA.queue = s.portA.queue ∧ (classReported a s).portA.counts = s.portA.counts ∧
    (classReported a s).portA.reply = s.portA.reply ∧ (classReported a s).portA.alarm = s.portA.alarm ∧
    (classReported a s).portA.occupancy = s.portA.occupancy ∧ (classReported a s).portB.queue = s.portB.queue ∧
    (classReported a s).portB.counts = s.portB.counts ∧ (classReported a s).portB.reply = s.portB.reply ∧
    (classReported a s).portB.alarm = s.portB.alarm ∧ (classReported a s).portB.occupancy = s.portB.occupancy ∧
    (classReported a s).table.entries = s.table.entries ∧ (classReported a s).table.inFlight = s.table.inFlight ∧
    (classReported a s).table.forced = s.table.forced ∧ (classReported a s).table.pointer = s.table.pointer ∧
    (classReported a s).table.moves = s.table.moves ∧ (classReported a s).table.conflicts = s.table.conflicts ∧
    (classReported a s).table.ownHeard = s.table.ownHeard ∧ (classReported a s).zones.floor = s.zones.floor ∧
    (classReported a s).burner.run = s.burner.run ∧ (classReported a s).recovery.state = s.recovery.state ∧
    (classReported a s).recovery.records = s.recovery.records ∧
    (classReported a s).recovery.resetTimes = s.recovery.resetTimes ∧
    (classReported a s).recovery.hardLatch = s.recovery.hardLatch ∧
    (classReported a s).recovery.lockout = s.recovery.lockout ∧
    (classReported a s).recovery.suspend = s.recovery.suspend ∧ (classReported a s).tank = s.tank ∧
    (classReported a s).accounts = s.accounts ∧ (classReported a s).monitor.reset = s.monitor.reset ∧
    (classReported a s).alarms.sendTimes = s.alarms.sendTimes ∧ (classReported a s).mgmt = s.mgmt ∧
    (classReported a s).time = s.time ∧ (classReported a s).store = s.store := by
  simp only [classReported]; (repeat' split) <;> simp

@[simp] theorem presenceAlarm_frame (a : Addr) (e : Station) :
    (presenceAlarm a e s).pending = s.pending ∧ (presenceAlarm a e s).powered = s.powered ∧
    (presenceAlarm a e s).free = s.free ∧ (presenceAlarm a e s).settings = s.settings ∧
    (presenceAlarm a e s).portA = s.portA ∧ (presenceAlarm a e s).portB = s.portB ∧
    (presenceAlarm a e s).ownSeq = s.ownSeq ∧ (presenceAlarm a e s).table = s.table ∧
    (presenceAlarm a e s).zones = s.zones ∧ (presenceAlarm a e s).burner = s.burner ∧
    (presenceAlarm a e s).recovery = s.recovery ∧ (presenceAlarm a e s).tank = s.tank ∧
    (presenceAlarm a e s).accounts = s.accounts ∧ (presenceAlarm a e s).sampler = s.sampler ∧
    (presenceAlarm a e s).monitor = s.monitor ∧ (presenceAlarm a e s).alarms.sendTimes = s.alarms.sendTimes ∧
    (presenceAlarm a e s).mgmt = s.mgmt ∧ (presenceAlarm a e s).time = s.time ∧
    (presenceAlarm a e s).store = s.store := by
  simp only [presenceAlarm]; (repeat' split) <;> simp

@[simp] theorem replaceStation_frame (a : Addr) (e : Station) :
    (replaceStation a e s).pending = s.pending ∧ (replaceStation a e s).powered = s.powered ∧
    (replaceStation a e s).free = s.free ∧ (replaceStation a e s).settings = s.settings ∧
    (replaceStation a e s).portA.queue = s.portA.queue ∧ (replaceStation a e s).portA.counts = s.portA.counts ∧
    (replaceStation a e s).portA.reply = s.portA.reply ∧ (replaceStation a e s).portA.alarm = s.portA.alarm ∧
    (replaceStation a e s).portA.occupancy = s.portA.occupancy ∧
    (replaceStation a e s).portB.queue = s.portB.queue ∧ (replaceStation a e s).portB.counts = s.portB.counts ∧
    (replaceStation a e s).portB.reply = s.portB.reply ∧ (replaceStation a e s).portB.alarm = s.portB.alarm ∧
    (replaceStation a e s).portB.occupancy = s.portB.occupancy ∧
    (replaceStation a e s).table.inFlight = s.table.inFlight ∧
    (replaceStation a e s).table.forced = s.table.forced ∧ (replaceStation a e s).table.pointer = s.table.pointer ∧
    (replaceStation a e s).table.moves = s.table.moves ∧
    (replaceStation a e s).table.conflicts = s.table.conflicts ∧
    (replaceStation a e s).table.ownHeard = s.table.ownHeard ∧ (replaceStation a e s).zones.units = s.zones.units ∧
    (replaceStation a e s).zones.floor = s.zones.floor ∧ (replaceStation a e s).burner.run = s.burner.run ∧
    (replaceStation a e s).recovery.state = s.recovery.state ∧
    (replaceStation a e s).recovery.records = s.recovery.records ∧
    (replaceStation a e s).recovery.resetTimes = s.recovery.resetTimes ∧
    (replaceStation a e s).recovery.hardLatch = s.recovery.hardLatch ∧
    (replaceStation a e s).recovery.lockout = s.recovery.lockout ∧
    (replaceStation a e s).recovery.suspend = s.recovery.suspend ∧ (replaceStation a e s).tank = s.tank ∧
    (replaceStation a e s).accounts = s.accounts ∧ (replaceStation a e s).monitor.reset = s.monitor.reset ∧
    (replaceStation a e s).alarms.sendTimes = s.alarms.sendTimes ∧ (replaceStation a e s).mgmt = s.mgmt ∧
    (replaceStation a e s).time = s.time ∧ (replaceStation a e s).store = s.store := by
  simp only [replaceStation]; split <;> simp [State.setStation]

@[simp] theorem testAge_frame (a : Addr) :
    (testAge a s).pending = s.pending ∧ (testAge a s).powered = s.powered ∧ (testAge a s).free = s.free ∧
    (testAge a s).settings = s.settings ∧ (testAge a s).portA.queue = s.portA.queue ∧
    (testAge a s).portA.counts = s.portA.counts ∧ (testAge a s).portA.reply = s.portA.reply ∧
    (testAge a s).portA.alarm = s.portA.alarm ∧ (testAge a s).portA.occupancy = s.portA.occupancy ∧
    (testAge a s).portB.queue = s.portB.queue ∧ (testAge a s).portB.counts = s.portB.counts ∧
    (testAge a s).portB.reply = s.portB.reply ∧ (testAge a s).portB.alarm = s.portB.alarm ∧
    (testAge a s).portB.occupancy = s.portB.occupancy ∧ (testAge a s).table.inFlight = s.table.inFlight ∧
    (testAge a s).table.forced = s.table.forced ∧ (testAge a s).table.pointer = s.table.pointer ∧
    (testAge a s).table.moves = s.table.moves ∧ (testAge a s).table.conflicts = s.table.conflicts ∧
    (testAge a s).table.ownHeard = s.table.ownHeard ∧ (testAge a s).zones.units = s.zones.units ∧
    (testAge a s).zones.floor = s.zones.floor ∧ (testAge a s).burner.run = s.burner.run ∧
    (testAge a s).recovery.state = s.recovery.state ∧ (testAge a s).recovery.records = s.recovery.records ∧
    (testAge a s).recovery.resetTimes = s.recovery.resetTimes ∧
    (testAge a s).recovery.hardLatch = s.recovery.hardLatch ∧ (testAge a s).recovery.lockout = s.recovery.lockout ∧
    (testAge a s).recovery.suspend = s.recovery.suspend ∧ (testAge a s).tank = s.tank ∧
    (testAge a s).accounts = s.accounts ∧ (testAge a s).monitor.reset = s.monitor.reset ∧
    (testAge a s).alarms.sendTimes = s.alarms.sendTimes ∧ (testAge a s).mgmt = s.mgmt ∧
    (testAge a s).time = s.time ∧ (testAge a s).store = s.store := by
  simp only [testAge]; (repeat' split) <;> simp

@[simp] theorem addMark_frame (a : Addr) :
    (addMark a s).pending = s.pending ∧ (addMark a s).powered = s.powered ∧ (addMark a s).free = s.free ∧
    (addMark a s).settings = s.settings ∧ (addMark a s).portA.queue = s.portA.queue ∧
    (addMark a s).portA.counts = s.portA.counts ∧ (addMark a s).portA.reply = s.portA.reply ∧
    (addMark a s).portA.alarm = s.portA.alarm ∧ (addMark a s).portA.occupancy = s.portA.occupancy ∧
    (addMark a s).portB.queue = s.portB.queue ∧ (addMark a s).portB.counts = s.portB.counts ∧
    (addMark a s).portB.reply = s.portB.reply ∧ (addMark a s).portB.alarm = s.portB.alarm ∧
    (addMark a s).portB.occupancy = s.portB.occupancy ∧ (addMark a s).table.inFlight = s.table.inFlight ∧
    (addMark a s).table.forced = s.table.forced ∧ (addMark a s).table.pointer = s.table.pointer ∧
    (addMark a s).table.moves = s.table.moves ∧ (addMark a s).table.conflicts = s.table.conflicts ∧
    (addMark a s).table.ownHeard = s.table.ownHeard ∧ (addMark a s).zones.units = s.zones.units ∧
    (addMark a s).zones.floor = s.zones.floor ∧ (addMark a s).burner.run = s.burner.run ∧
    (addMark a s).recovery.state = s.recovery.state ∧ (addMark a s).recovery.records = s.recovery.records ∧
    (addMark a s).recovery.resetTimes = s.recovery.resetTimes ∧
    (addMark a s).recovery.hardLatch = s.recovery.hardLatch ∧ (addMark a s).recovery.lockout = s.recovery.lockout ∧
    (addMark a s).recovery.suspend = s.recovery.suspend ∧ (addMark a s).tank = s.tank ∧
    (addMark a s).accounts = s.accounts ∧ (addMark a s).monitor.reset = s.monitor.reset ∧
    (addMark a s).alarms.sendTimes = s.alarms.sendTimes ∧ (addMark a s).mgmt = s.mgmt ∧
    (addMark a s).time = s.time ∧ (addMark a s).store = s.store := by
  simp only [addMark]; (repeat' split) <;> simp

@[simp] theorem markUndelivered_frame (a : Addr) :
    (markUndelivered a s).pending = s.pending ∧ (markUndelivered a s).powered = s.powered ∧
    (markUndelivered a s).free = s.free ∧ (markUndelivered a s).settings = s.settings ∧
    (markUndelivered a s).portA.queue = s.portA.queue ∧ (markUndelivered a s).portA.counts = s.portA.counts ∧
    (markUndelivered a s).portA.reply = s.portA.reply ∧ (markUndelivered a s).portA.alarm = s.portA.alarm ∧
    (markUndelivered a s).portA.occupancy = s.portA.occupancy ∧ (markUndelivered a s).portB.queue = s.portB.queue ∧
    (markUndelivered a s).portB.counts = s.portB.counts ∧ (markUndelivered a s).portB.reply = s.portB.reply ∧
    (markUndelivered a s).portB.alarm = s.portB.alarm ∧ (markUndelivered a s).portB.occupancy = s.portB.occupancy ∧
    (markUndelivered a s).table.inFlight = s.table.inFlight ∧ (markUndelivered a s).table.forced = s.table.forced ∧
    (markUndelivered a s).table.pointer = s.table.pointer ∧ (markUndelivered a s).table.moves = s.table.moves ∧
    (markUndelivered a s).table.conflicts = s.table.conflicts ∧
    (markUndelivered a s).table.ownHeard = s.table.ownHeard ∧ (markUndelivered a s).zones.units = s.zones.units ∧
    (markUndelivered a s).zones.floor = s.zones.floor ∧ (markUndelivered a s).burner.run = s.burner.run ∧
    (markUndelivered a s).recovery.state = s.recovery.state ∧
    (markUndelivered a s).recovery.records = s.recovery.records ∧
    (markUndelivered a s).recovery.resetTimes = s.recovery.resetTimes ∧
    (markUndelivered a s).recovery.hardLatch = s.recovery.hardLatch ∧
    (markUndelivered a s).recovery.lockout = s.recovery.lockout ∧
    (markUndelivered a s).recovery.suspend = s.recovery.suspend ∧ (markUndelivered a s).tank = s.tank ∧
    (markUndelivered a s).accounts = s.accounts ∧ (markUndelivered a s).monitor.reset = s.monitor.reset ∧
    (markUndelivered a s).alarms.sendTimes = s.alarms.sendTimes ∧ (markUndelivered a s).mgmt = s.mgmt ∧
    (markUndelivered a s).time = s.time ∧ (markUndelivered a s).store = s.store := by
  simp only [markUndelivered]; (repeat' split) <;> simp

@[simp] theorem beginPoll_frame (a : Addr) :
    (beginPoll a s).pending = s.pending ∧ (beginPoll a s).powered = s.powered ∧ (beginPoll a s).free = s.free ∧
    (beginPoll a s).settings = s.settings ∧ (beginPoll a s).portA.queue = s.portA.queue ∧
    (beginPoll a s).portA.counts = s.portA.counts ∧ (beginPoll a s).portA.reply = s.portA.reply ∧
    (beginPoll a s).portA.alarm = s.portA.alarm ∧ (beginPoll a s).portA.occupancy = s.portA.occupancy ∧
    (beginPoll a s).portB.queue = s.portB.queue ∧ (beginPoll a s).portB.counts = s.portB.counts ∧
    (beginPoll a s).portB.reply = s.portB.reply ∧ (beginPoll a s).portB.alarm = s.portB.alarm ∧
    (beginPoll a s).portB.occupancy = s.portB.occupancy ∧ (beginPoll a s).table.entries = s.table.entries ∧
    (beginPoll a s).table.forced = s.table.forced ∧ (beginPoll a s).table.pointer = s.table.pointer ∧
    (beginPoll a s).table.moves = s.table.moves ∧ (beginPoll a s).table.conflicts = s.table.conflicts ∧
    (beginPoll a s).table.ownHeard = s.table.ownHeard ∧ (beginPoll a s).zones = s.zones ∧
    (beginPoll a s).burner = s.burner ∧ (beginPoll a s).recovery = s.recovery ∧ (beginPoll a s).tank = s.tank ∧
    (beginPoll a s).accounts = s.accounts ∧ (beginPoll a s).sampler = s.sampler ∧
    (beginPoll a s).monitor = s.monitor ∧ (beginPoll a s).alarms = s.alarms ∧ (beginPoll a s).mgmt = s.mgmt ∧
    (beginPoll a s).time = s.time ∧ (beginPoll a s).store = s.store := by
  simp only [beginPoll, State.takeSeq]; (repeat' split) <;> simp

@[simp] theorem pollSearch_frame :
    (pollSearch s).pending = s.pending ∧ (pollSearch s).powered = s.powered ∧ (pollSearch s).free = s.free ∧
    (pollSearch s).settings = s.settings ∧ (pollSearch s).portA.queue = s.portA.queue ∧
    (pollSearch s).portA.counts = s.portA.counts ∧ (pollSearch s).portA.reply = s.portA.reply ∧
    (pollSearch s).portA.alarm = s.portA.alarm ∧ (pollSearch s).portA.occupancy = s.portA.occupancy ∧
    (pollSearch s).portB.queue = s.portB.queue ∧ (pollSearch s).portB.counts = s.portB.counts ∧
    (pollSearch s).portB.reply = s.portB.reply ∧ (pollSearch s).portB.alarm = s.portB.alarm ∧
    (pollSearch s).portB.occupancy = s.portB.occupancy ∧ (pollSearch s).table.entries = s.table.entries ∧
    (pollSearch s).table.moves = s.table.moves ∧ (pollSearch s).table.conflicts = s.table.conflicts ∧
    (pollSearch s).table.ownHeard = s.table.ownHeard ∧ (pollSearch s).zones = s.zones ∧
    (pollSearch s).burner = s.burner ∧ (pollSearch s).recovery = s.recovery ∧ (pollSearch s).tank = s.tank ∧
    (pollSearch s).accounts = s.accounts ∧ (pollSearch s).sampler = s.sampler ∧
    (pollSearch s).monitor = s.monitor ∧ (pollSearch s).alarms = s.alarms ∧ (pollSearch s).mgmt = s.mgmt ∧
    (pollSearch s).time = s.time ∧ (pollSearch s).store = s.store := by
  simp only [pollSearch]; (repeat' split) <;> simp

@[simp] theorem endPoll_frame (a : Addr) :
    (endPoll a s).pending = s.pending ∧ (endPoll a s).powered = s.powered ∧ (endPoll a s).free = s.free ∧
    (endPoll a s).settings = s.settings ∧ (endPoll a s).portA.queue = s.portA.queue ∧
    (endPoll a s).portA.counts = s.portA.counts ∧ (endPoll a s).portA.reply = s.portA.reply ∧
    (endPoll a s).portA.alarm = s.portA.alarm ∧ (endPoll a s).portA.occupancy = s.portA.occupancy ∧
    (endPoll a s).portB.queue = s.portB.queue ∧ (endPoll a s).portB.counts = s.portB.counts ∧
    (endPoll a s).portB.reply = s.portB.reply ∧ (endPoll a s).portB.alarm = s.portB.alarm ∧
    (endPoll a s).portB.occupancy = s.portB.occupancy ∧ (endPoll a s).table.moves = s.table.moves ∧
    (endPoll a s).table.conflicts = s.table.conflicts ∧ (endPoll a s).table.ownHeard = s.table.ownHeard ∧
    (endPoll a s).zones = s.zones ∧ (endPoll a s).burner = s.burner ∧ (endPoll a s).recovery = s.recovery ∧
    (endPoll a s).tank = s.tank ∧ (endPoll a s).accounts = s.accounts ∧ (endPoll a s).sampler = s.sampler ∧
    (endPoll a s).monitor = s.monitor ∧ (endPoll a s).alarms = s.alarms ∧ (endPoll a s).mgmt = s.mgmt ∧
    (endPoll a s).time = s.time ∧ (endPoll a s).store = s.store := by
  simp [endPoll, State.setStation]

@[simp] theorem withdrawPoll_frame (i : InFlight) :
    (withdrawPoll i s).pending = s.pending ∧ (withdrawPoll i s).powered = s.powered ∧
    (withdrawPoll i s).free = s.free ∧ (withdrawPoll i s).settings = s.settings ∧
    (withdrawPoll i s).portA.queue = s.portA.queue ∧ (withdrawPoll i s).portA.counts = s.portA.counts ∧
    (withdrawPoll i s).portA.reply = s.portA.reply ∧ (withdrawPoll i s).portA.alarm = s.portA.alarm ∧
    (withdrawPoll i s).portA.occupancy = s.portA.occupancy ∧ (withdrawPoll i s).portB.queue = s.portB.queue ∧
    (withdrawPoll i s).portB.counts = s.portB.counts ∧ (withdrawPoll i s).portB.reply = s.portB.reply ∧
    (withdrawPoll i s).portB.alarm = s.portB.alarm ∧ (withdrawPoll i s).portB.occupancy = s.portB.occupancy ∧
    (withdrawPoll i s).ownSeq = s.ownSeq ∧ (withdrawPoll i s).table = s.table ∧
    (withdrawPoll i s).zones = s.zones ∧ (withdrawPoll i s).burner = s.burner ∧
    (withdrawPoll i s).recovery = s.recovery ∧ (withdrawPoll i s).tank = s.tank ∧
    (withdrawPoll i s).accounts = s.accounts ∧ (withdrawPoll i s).sampler = s.sampler ∧
    (withdrawPoll i s).monitor = s.monitor ∧ (withdrawPoll i s).alarms = s.alarms ∧
    (withdrawPoll i s).mgmt = s.mgmt ∧ (withdrawPoll i s).time = s.time ∧ (withdrawPoll i s).store = s.store := by
  simp only [withdrawPoll, State.takeSeq]; (repeat' split) <;> simp

@[simp] theorem completePoll_frame (a : Addr) :
    (completePoll a s).pending = s.pending ∧ (completePoll a s).powered = s.powered ∧
    (completePoll a s).free = s.free ∧ (completePoll a s).settings = s.settings ∧
    (completePoll a s).portA.queue = s.portA.queue ∧ (completePoll a s).portA.counts = s.portA.counts ∧
    (completePoll a s).portA.reply = s.portA.reply ∧ (completePoll a s).portA.alarm = s.portA.alarm ∧
    (completePoll a s).portA.occupancy = s.portA.occupancy ∧ (completePoll a s).portB.queue = s.portB.queue ∧
    (completePoll a s).portB.counts = s.portB.counts ∧ (completePoll a s).portB.reply = s.portB.reply ∧
    (completePoll a s).portB.alarm = s.portB.alarm ∧ (completePoll a s).portB.occupancy = s.portB.occupancy ∧
    (completePoll a s).table.moves = s.table.moves ∧ (completePoll a s).table.conflicts = s.table.conflicts ∧
    (completePoll a s).table.ownHeard = s.table.ownHeard ∧ (completePoll a s).zones = s.zones ∧
    (completePoll a s).burner = s.burner ∧ (completePoll a s).recovery = s.recovery ∧
    (completePoll a s).tank = s.tank ∧ (completePoll a s).accounts = s.accounts ∧
    (completePoll a s).sampler = s.sampler ∧ (completePoll a s).monitor = s.monitor ∧
    (completePoll a s).alarms = s.alarms ∧ (completePoll a s).mgmt = s.mgmt ∧ (completePoll a s).time = s.time ∧
    (completePoll a s).store = s.store := by
  simp only [completePoll]; (repeat' split) <;> simp

@[simp] theorem pollAcked_frame (g : Segment) :
    (pollAcked g s).pending = s.pending ∧ (pollAcked g s).powered = s.powered ∧ (pollAcked g s).free = s.free ∧
    (pollAcked g s).settings = s.settings ∧ (pollAcked g s).portA.queue = s.portA.queue ∧
    (pollAcked g s).portA.counts = s.portA.counts ∧ (pollAcked g s).portA.reply = s.portA.reply ∧
    (pollAcked g s).portA.alarm = s.portA.alarm ∧ (pollAcked g s).portA.occupancy = s.portA.occupancy ∧
    (pollAcked g s).portB.queue = s.portB.queue ∧ (pollAcked g s).portB.counts = s.portB.counts ∧
    (pollAcked g s).portB.reply = s.portB.reply ∧ (pollAcked g s).portB.alarm = s.portB.alarm ∧
    (pollAcked g s).portB.occupancy = s.portB.occupancy ∧ (pollAcked g s).ownSeq = s.ownSeq ∧
    (pollAcked g s).table.entries = s.table.entries ∧ (pollAcked g s).table.forced = s.table.forced ∧
    (pollAcked g s).table.pointer = s.table.pointer ∧ (pollAcked g s).table.moves = s.table.moves ∧
    (pollAcked g s).table.conflicts = s.table.conflicts ∧ (pollAcked g s).table.ownHeard = s.table.ownHeard ∧
    (pollAcked g s).zones = s.zones ∧ (pollAcked g s).burner = s.burner ∧ (pollAcked g s).recovery = s.recovery ∧
    (pollAcked g s).tank = s.tank ∧ (pollAcked g s).accounts = s.accounts ∧ (pollAcked g s).sampler = s.sampler ∧
    (pollAcked g s).monitor = s.monitor ∧ (pollAcked g s).alarms = s.alarms ∧ (pollAcked g s).mgmt = s.mgmt ∧
    (pollAcked g s).time = s.time ∧ (pollAcked g s).store = s.store := by
  simp only [pollAcked]; (repeat' split) <;> simp

@[simp] theorem pollUndelivered_frame (g : Segment) :
    (pollUndelivered g s).pending = s.pending ∧ (pollUndelivered g s).powered = s.powered ∧
    (pollUndelivered g s).free = s.free ∧ (pollUndelivered g s).settings = s.settings ∧
    (pollUndelivered g s).portA.queue = s.portA.queue ∧ (pollUndelivered g s).portA.counts = s.portA.counts ∧
    (pollUndelivered g s).portA.reply = s.portA.reply ∧ (pollUndelivered g s).portA.alarm = s.portA.alarm ∧
    (pollUndelivered g s).portA.occupancy = s.portA.occupancy ∧ (pollUndelivered g s).portB.queue = s.portB.queue ∧
    (pollUndelivered g s).portB.counts = s.portB.counts ∧ (pollUndelivered g s).portB.reply = s.portB.reply ∧
    (pollUndelivered g s).portB.alarm = s.portB.alarm ∧ (pollUndelivered g s).portB.occupancy = s.portB.occupancy ∧
    (pollUndelivered g s).table.moves = s.table.moves ∧ (pollUndelivered g s).table.conflicts = s.table.conflicts ∧
    (pollUndelivered g s).table.ownHeard = s.table.ownHeard ∧ (pollUndelivered g s).zones.units = s.zones.units ∧
    (pollUndelivered g s).zones.floor = s.zones.floor ∧ (pollUndelivered g s).burner.run = s.burner.run ∧
    (pollUndelivered g s).recovery.state = s.recovery.state ∧
    (pollUndelivered g s).recovery.records = s.recovery.records ∧
    (pollUndelivered g s).recovery.resetTimes = s.recovery.resetTimes ∧
    (pollUndelivered g s).recovery.hardLatch = s.recovery.hardLatch ∧
    (pollUndelivered g s).recovery.lockout = s.recovery.lockout ∧
    (pollUndelivered g s).recovery.suspend = s.recovery.suspend ∧ (pollUndelivered g s).tank = s.tank ∧
    (pollUndelivered g s).accounts = s.accounts ∧ (pollUndelivered g s).monitor.reset = s.monitor.reset ∧
    (pollUndelivered g s).alarms.sendTimes = s.alarms.sendTimes ∧ (pollUndelivered g s).mgmt = s.mgmt ∧
    (pollUndelivered g s).time = s.time ∧ (pollUndelivered g s).store = s.store := by
  simp only [pollUndelivered]; (repeat' split) <;> simp

@[simp] theorem forcePoll_frame (a : Addr) :
    (forcePoll a s).pending = s.pending ∧ (forcePoll a s).powered = s.powered ∧ (forcePoll a s).free = s.free ∧
    (forcePoll a s).settings = s.settings ∧ (forcePoll a s).portA.queue = s.portA.queue ∧
    (forcePoll a s).portA.counts = s.portA.counts ∧ (forcePoll a s).portA.reply = s.portA.reply ∧
    (forcePoll a s).portA.alarm = s.portA.alarm ∧ (forcePoll a s).portA.occupancy = s.portA.occupancy ∧
    (forcePoll a s).portB.queue = s.portB.queue ∧ (forcePoll a s).portB.counts = s.portB.counts ∧
    (forcePoll a s).portB.reply = s.portB.reply ∧ (forcePoll a s).portB.alarm = s.portB.alarm ∧
    (forcePoll a s).portB.occupancy = s.portB.occupancy ∧ (forcePoll a s).table.entries = s.table.entries ∧
    (forcePoll a s).table.moves = s.table.moves ∧ (forcePoll a s).table.conflicts = s.table.conflicts ∧
    (forcePoll a s).table.ownHeard = s.table.ownHeard ∧ (forcePoll a s).zones = s.zones ∧
    (forcePoll a s).burner = s.burner ∧ (forcePoll a s).recovery = s.recovery ∧ (forcePoll a s).tank = s.tank ∧
    (forcePoll a s).accounts = s.accounts ∧ (forcePoll a s).sampler = s.sampler ∧
    (forcePoll a s).monitor = s.monitor ∧ (forcePoll a s).alarms = s.alarms ∧ (forcePoll a s).mgmt = s.mgmt ∧
    (forcePoll a s).time = s.time ∧ (forcePoll a s).store = s.store := by
  simp only [forcePoll]; (repeat' split) <;> simp

@[simp] theorem writeClass_frame (c : StationClass) (a : Addr) :
    (writeClass c a s).pending = s.pending ∧ (writeClass c a s).powered = s.powered ∧
    (writeClass c a s).free = s.free ∧ (writeClass c a s).settings = s.settings ∧
    (writeClass c a s).portA.queue = s.portA.queue ∧ (writeClass c a s).portA.counts = s.portA.counts ∧
    (writeClass c a s).portA.reply = s.portA.reply ∧ (writeClass c a s).portA.alarm = s.portA.alarm ∧
    (writeClass c a s).portA.occupancy = s.portA.occupancy ∧ (writeClass c a s).portB.queue = s.portB.queue ∧
    (writeClass c a s).portB.counts = s.portB.counts ∧ (writeClass c a s).portB.reply = s.portB.reply ∧
    (writeClass c a s).portB.alarm = s.portB.alarm ∧ (writeClass c a s).portB.occupancy = s.portB.occupancy ∧
    (writeClass c a s).table.inFlight = s.table.inFlight ∧ (writeClass c a s).table.forced = s.table.forced ∧
    (writeClass c a s).table.pointer = s.table.pointer ∧ (writeClass c a s).table.moves = s.table.moves ∧
    (writeClass c a s).table.conflicts = s.table.conflicts ∧ (writeClass c a s).table.ownHeard = s.table.ownHeard ∧
    (writeClass c a s).zones.floor = s.zones.floor ∧ (writeClass c a s).burner.run = s.burner.run ∧
    (writeClass c a s).recovery.state = s.recovery.state ∧
    (writeClass c a s).recovery.records = s.recovery.records ∧
    (writeClass c a s).recovery.resetTimes = s.recovery.resetTimes ∧
    (writeClass c a s).recovery.hardLatch = s.recovery.hardLatch ∧
    (writeClass c a s).recovery.lockout = s.recovery.lockout ∧
    (writeClass c a s).recovery.suspend = s.recovery.suspend ∧ (writeClass c a s).tank = s.tank ∧
    (writeClass c a s).accounts = s.accounts ∧ (writeClass c a s).monitor.reset = s.monitor.reset ∧
    (writeClass c a s).alarms.sendTimes = s.alarms.sendTimes ∧ (writeClass c a s).mgmt = s.mgmt ∧
    (writeClass c a s).time = s.time ∧ (writeClass c a s).store = s.store := by
  simp only [writeClass]; (repeat' split) <;> simp [State.setStation]

@[simp] theorem writePoll_frame (b : Bool) (a : Addr) :
    (writePoll b a s).pending = s.pending ∧ (writePoll b a s).powered = s.powered ∧
    (writePoll b a s).free = s.free ∧ (writePoll b a s).settings = s.settings ∧
    (writePoll b a s).portA.queue = s.portA.queue ∧ (writePoll b a s).portA.counts = s.portA.counts ∧
    (writePoll b a s).portA.reply = s.portA.reply ∧ (writePoll b a s).portA.alarm = s.portA.alarm ∧
    (writePoll b a s).portA.occupancy = s.portA.occupancy ∧ (writePoll b a s).portB.queue = s.portB.queue ∧
    (writePoll b a s).portB.counts = s.portB.counts ∧ (writePoll b a s).portB.reply = s.portB.reply ∧
    (writePoll b a s).portB.alarm = s.portB.alarm ∧ (writePoll b a s).portB.occupancy = s.portB.occupancy ∧
    (writePoll b a s).table.moves = s.table.moves ∧ (writePoll b a s).table.conflicts = s.table.conflicts ∧
    (writePoll b a s).table.ownHeard = s.table.ownHeard ∧ (writePoll b a s).zones = s.zones ∧
    (writePoll b a s).burner = s.burner ∧ (writePoll b a s).recovery = s.recovery ∧
    (writePoll b a s).tank = s.tank ∧ (writePoll b a s).accounts = s.accounts ∧
    (writePoll b a s).sampler = s.sampler ∧ (writePoll b a s).monitor = s.monitor ∧
    (writePoll b a s).alarms = s.alarms ∧ (writePoll b a s).mgmt = s.mgmt ∧ (writePoll b a s).time = s.time ∧
    (writePoll b a s).store = s.store := by
  simp only [writePoll]; split <;> simp [State.setStation]

@[simp] theorem trimCountdowns_frame :
    (trimCountdowns s).pending = s.pending ∧ (trimCountdowns s).powered = s.powered ∧
    (trimCountdowns s).free = s.free ∧ (trimCountdowns s).settings = s.settings ∧
    (trimCountdowns s).portA = s.portA ∧ (trimCountdowns s).portB = s.portB ∧
    (trimCountdowns s).ownSeq = s.ownSeq ∧ (trimCountdowns s).table.inFlight = s.table.inFlight ∧
    (trimCountdowns s).table.forced = s.table.forced ∧ (trimCountdowns s).table.pointer = s.table.pointer ∧
    (trimCountdowns s).table.moves = s.table.moves ∧ (trimCountdowns s).table.conflicts = s.table.conflicts ∧
    (trimCountdowns s).table.ownHeard = s.table.ownHeard ∧ (trimCountdowns s).zones = s.zones ∧
    (trimCountdowns s).burner = s.burner ∧ (trimCountdowns s).recovery = s.recovery ∧
    (trimCountdowns s).tank = s.tank ∧ (trimCountdowns s).accounts = s.accounts ∧
    (trimCountdowns s).sampler = s.sampler ∧ (trimCountdowns s).monitor = s.monitor ∧
    (trimCountdowns s).alarms = s.alarms ∧ (trimCountdowns s).mgmt = s.mgmt ∧ (trimCountdowns s).time = s.time ∧
    (trimCountdowns s).store = s.store := by
  simp only [trimCountdowns]; (repeat' split) <;> simp

@[simp] theorem writePeriod_frame (n : Nat) :
    (writePeriod n s).pending = s.pending ∧ (writePeriod n s).powered = s.powered ∧
    (writePeriod n s).free = s.free ∧ (writePeriod n s).portA = s.portA ∧ (writePeriod n s).portB = s.portB ∧
    (writePeriod n s).ownSeq = s.ownSeq ∧ (writePeriod n s).table.inFlight = s.table.inFlight ∧
    (writePeriod n s).table.forced = s.table.forced ∧ (writePeriod n s).table.pointer = s.table.pointer ∧
    (writePeriod n s).table.moves = s.table.moves ∧ (writePeriod n s).table.conflicts = s.table.conflicts ∧
    (writePeriod n s).table.ownHeard = s.table.ownHeard ∧ (writePeriod n s).zones = s.zones ∧
    (writePeriod n s).burner = s.burner ∧ (writePeriod n s).recovery = s.recovery ∧
    (writePeriod n s).tank = s.tank ∧ (writePeriod n s).accounts = s.accounts ∧
    (writePeriod n s).sampler = s.sampler ∧ (writePeriod n s).monitor = s.monitor ∧
    (writePeriod n s).alarms = s.alarms ∧ (writePeriod n s).mgmt = s.mgmt ∧ (writePeriod n s).time = s.time ∧
    (writePeriod n s).store = s.store := by
  simp only [writePeriod]; (repeat' split) <;> simp

end Sys2Proof.Machine
end

