-- ==== Sys2Proof/WellFormed.lean ====
section
/-! DEFINITION. Which commands the outside world can send: the bounds the spec puts on their operands. `exec` gives every
command a meaning, well formed or not. -/

namespace Sys2Proof

/-- A complete frame carries at most eight payload bytes (R2, R20). -/
def Frame.wf (f : Frame) : Bool := f.payload.length ≤ 8

/-- A requester is a station, 1 to 30 (R4, R178). -/
def Requester.wf (r : Requester) : Bool := r.station != 0

/-- A written value has at most four bytes (R182). -/
def valueWf (v : List Byte) : Bool := v.length ≤ 4

/-- An unknown command has a code outside the command table, and at most seven argument bytes (R20, R180). -/
def unknownWf (code : Byte) (args : List Byte) : Bool := (code == 0 || 13 < code.toNat) && args.length ≤ 7

/-- A station entry is one of 1 to 30 (R22). -/
def stationWf (a : Addr) : Bool := a != 0

/-- Whether a command is well formed. -/
def Instr.wf : Instr → Bool
  | .powerOn | .powerLoss | .timeBaseSecond | .midnight => true
  | .frameArrival _ f => f.wf
  | .frameAbandon _ _ | .characterGapExpiry _ | .ackSlotClose _ | .answerCharacterReceived _ _ | .retryWaitExpiry _ _
  | .transmitSelection _ | .frameSent _ => true
  | .duplicateWindowExpiry a | .silenceLimitReached a | .absencePointReached a | .pollCountdownExpiry a => stationWf a
  | .pollAnswerWaitExpiry | .holdTimerExpiry _ | .boostExpiry _ | .fallbackDutyBoundary _ | .priorityTimerExpiry _
  | .switchClose _ | .switchOpen _ | .endSwitchFirstValue _ | .travelExpiry _ | .pumpOverrunExpiry | .startDelayExpiry
  | .pacingExpiry | .preheatExpiry | .boxNoResponse | .provingExpiry | .minimumRunExpiry | .firingSecond | .flameOut
  | .runRise | .runFall | .lockoutRise | .lockoutFall | .coolDownExpiry | .resetPulseEnd | .releaseWaitExpiry
  | .provingWindowExpiry | .observeLimitExpiry | .serviceWaitExpiry | .resetTimeEntryExpiry | .staleTimerExpiry
  | .spacingTimerExpiry | .contactSenseChange _ _ | .readbackExpiry _ | .alarmSend | .sendTimeEntryExpiry
  | .statusSpacingExpiry | .statusPeriodicExpiry | .replyHandOver | .serviceInputChange _ | .saveComplete => true
  | .unknownCommand r code args => r.wf && unknownWf code args
  | .readField r _ _ _ => r.wf
  | .writeField r _ _ _ v | .writeStationClass r _ v | .writeStationSegment r _ _ v | .writePollFlag r _ v
  | .writePollPeriod r _ v | .writeZoneEnable r _ v | .writeValveOutput r _ v | .writeZoneSetting r _ _ v
  | .writeFloorSetting r _ v | .writeTankHeight r v | .writeStrapping r _ v | .writeReserveCutout r _ v
  | .writeNozzleRate r v | .writeSampleInterval r v => r.wf && valueWf v
  | .commit r | .reload r | .setFloor r _ | .setTime r _ _ | .releaseSample r | .ackLeak r | .clearHard r | .clearFault r
  | .clearCounters r | .forcePoll r _ | .statusNow r => r.wf
  | .frameStart _ => true

end Sys2Proof
end

