-- ==== Sys2Proof/Tests/Slice0.lean ====
section
/-! SUPPORT. The model's own tests: ill-formed commands that WellFormed refuses, worked examples of the spec, one small step
for commands of every family, and for every statement with hypotheses a state and operands that meet them. -/

namespace Sys2Proof.Tests

open Sys2Proof Machine

set_option Elab.async false

/-! ## Well-formedness: an ill-formed term for each check -/

theorem test_wf_refuses_long_frame :
    (Instr.frameArrival .a ⟨0, 1, 7, 0, [1, 2, 3, 4, 5, 6, 7, 8, 9], 0⟩).wf = false := by decide

theorem test_wf_refuses_requester_zero : (Instr.commit ⟨0, .a, 0⟩).wf = false := by decide

theorem test_wf_refuses_long_value : (Instr.writeNozzleRate ⟨1, .a, 0⟩ [1, 2, 3, 4, 5]).wf = false := by decide

theorem test_wf_refuses_known_code : (Instr.unknownCommand ⟨1, .a, 0⟩ 13 []).wf = false := by decide

theorem test_wf_refuses_long_unknown :
    (Instr.unknownCommand ⟨1, .a, 0⟩ 14 [1, 2, 3, 4, 5, 6, 7, 8]).wf = false := by decide

theorem test_wf_refuses_station_zero : (Instr.silenceLimitReached 0).wf = false := by decide

theorem test_wf_admits_boundaries :
    (Instr.unknownCommand ⟨30, .b, 15⟩ 14 [1, 2, 3, 4, 5, 6, 7]).wf = true
      ∧ (Instr.frameArrival .a ⟨0, 1, 7, 0, [1, 2, 3, 4, 5, 6, 7, 8], 0⟩).wf = true
      ∧ (Instr.writeNozzleRate ⟨1, .a, 0⟩ [1, 2, 3, 4]).wf = true := by decide

/-! ## Worked examples of the spec -/

/-- The check byte of the POLL to station 5 (spec/01, worked check byte). -/
theorem test_worked_check_byte :
    crc8 [0x05] = 0x1B ∧ crc8 [0x05, 0x00] = 0x41 ∧ crc8 [0x05, 0x00, 0x30] = 0x50
      ∧ (buildFrame 5 3 0 []).check = 0xB7 ∧ crc8 [0x05, 0x00, 0x30, 0x00, 0xB7] = 0 := by decide +kernel

/-- The CRC-16 of R192 over the digits 1 to 9: 0x29B1 is the check value generally given for these parameters
(PRESUMED: from outside the spec). -/
theorem test_crc16 : crc16 [0x31, 0x32, 0x33, 0x34, 0x35, 0x36, 0x37, 0x38, 0x39] = 0x29B1 := by decide +kernel

/-- A strapping table of five points, the one of the spec's worked case (spec/06). -/
def strapping : List StrapPoint := [⟨0, 0⟩, ⟨200, 180⟩, ⟨600, 900⟩, ⟨1000, 1620⟩, ⟨1200, 1800⟩]

/-- R128: read linearly and truncated between two points, and the last volume at the last height and above. -/
theorem test_interpolation :
    volumeAt strapping 0 = 0 ∧ volumeAt strapping 199 = 179 ∧ volumeAt strapping 470 = 666
      ∧ volumeAt strapping 1200 = 1800 ∧ volumeAt strapping 1300 = 1800 := by decide

/-- R126: the middle level of five, and the lower of the two middle ones of four. -/
theorem test_median : medianOf [472, 469, 470, 465, 471] = some 470 ∧ medianOf [4, 1, 3, 2] = some 2 := by
  decide +kernel

/-! ## States the tests start from -/

/-- The state with a command in front. -/
def run (c : Instr) (s : State) : State :=
  match exec c s with
  | .next t => t
  | .fault f => nomatch f
  | .refused _ => s

def on : State := State.reset

/-- Station 1 is a SERVICE_TOOL and station 2 a PANEL, both on segment A. -/
def tool : State :=
  (on.setStation 1 { cls := .serviceTool, configured := true, segment := some .a, presence := .present }).setStation 2
    { cls := .panel, configured := true, segment := some .a, presence := .present }

/-- The same with the SERVICE input closed. -/
def serviced : State := { tool with mgmt := { tool.mgmt with service := true } }

def rq : Requester := ⟨1, .a, 0⟩
def panelRq : Requester := ⟨2, .a, 0⟩

def withBurner (s : State) (f : Burner → Burner) : State := { s with burner := f s.burner }
def withRecovery (s : State) (f : Recovery → Recovery) : State := { s with recovery := f s.recovery }
def withPortA (s : State) (f : Port → Port) : State := { s with portA := f s.portA }
def withZone (s : State) (z : ZoneId) (f : Zone → Zone) : State := s.setZone z (f (s.zone z))
def withCfg (s : State) (z : ZoneId) (f : ZoneSettings → ZoneSettings) : State := s.setZoneCfg z (f (s.zoneCfg z))
def withValve (v : Valve) : State := on.setValve 0 v
def saving (s : State) : State := { s with store := { s.store with activity := .savingSettings factoryImage } }

def savingRun (s : State) : State := { s with store := { s.store with activity := .savingRunning {} } }

def pendingSaves (a b : Bool) (s : State) : State :=
  { s with store := { s.store with settingsPending := a, runningPending := b } }

/-- A record that an open episode carries. -/
def openRecord : LockoutRecord :=
  { number := 0, opened := none, phase := .called, sinceCall := some 3, tank := .unknown, volume := none, leak := false
    cause := .ignition, fuelUnknown := true, attempts := 1 }

/-- A frame of a station with its check byte. -/
def frame (dest source : Byte) (kind seq : BitVec 4) (payload : List Byte) : Frame :=
  let f : Frame := { dest, source, kind, seq, payload, check := 0 }
  { f with check := crc8 (frameBody f) }

/-- A DEMAND of station 3 to a destination. -/
def demand (dest : Byte) : Frame := frame dest 3 1 0 [0, 200, 0, 210, 1]

/-! ## One step of commands of every family -/

theorem test_powerOn_is_reset :
    exec .powerOn { powered := false, store := { settings := ⟨factoryImage, 0x87BD⟩, running := ⟨{}, 0x86C1⟩ } }
      = .next State.reset := congrArg Host.Outcome.next (by decide +kernel)

theorem test_powerLoss_stops : (run .powerLoss on).powered = false ∧ (run .powerLoss on).portA.status = none := by
  decide +kernel

theorem test_timeBaseSecond_counts :
    (run .timeBaseSecond on).time.timeOfDay = 1 ∧ (run .timeBaseSecond on).burner.startDelay = some 59 := by
  decide +kernel

theorem test_midnight_closes_day :
    (run .midnight { on with time := ⟨0, 1, false, true⟩, accounts := { on.accounts with tally := 12345 } }).accounts
      = { on.accounts with tally := 345, ring := [12] } := by decide +kernel

theorem test_frameArrival_failed_check :
    (run (.frameArrival .b { demand 0 with check := 0 }) on).portB.counts.checkErrors = 1 := by decide +kernel

theorem test_frameArrival_broadcast_crosses :
    (run (.frameArrival .a (demand 31)) on).portB.queue.length = 1
      ∧ ((run (.frameArrival .a (demand 31)) on).station 3).cls = .roomUnit := by decide +kernel

theorem test_silenceLimitReached :
    ((run (.silenceLimitReached 3)
      (on.setStation 3 { cls := .roomUnit, presence := .present, age := 900 })).station 3).presence = .silent := by
  decide +kernel

theorem test_endSwitchFirstValue_closes :
    ((run (.endSwitchFirstValue 0) on).valve 4).state = .closed
      ∧ ((run (.endSwitchFirstValue 16) on).valve 4).state = .closing := by decide +kernel

/-- A cold start: with no sender temperature the start is preheated (R80). -/
theorem test_startDelayExpiry_preheats :
    (run .startDelayExpiry (withBurner on fun b => { b with startDelay := some 0, demand := true })).burner.preheat
      = some 120 := by decide +kernel

/-- The worked integration of spec/07: 23,000 from a residue of 3,000 yields 6 ml and leaves 1,400. -/
theorem test_firingSecond_worked :
    (run .firingSecond
      { withBurner on (fun b => { b with state := .firing, firingSecond := some 0 }) with
        accounts := { on.accounts with residue := 3000 }
        settings := { on.settings with accounts := { on.settings.accounts with nozzleRate := 20000 } } }).accounts
      = { on.accounts with residue := 1400, burned := 6, tally := 6 } := by decide +kernel

theorem test_lockoutRise_cools :
    (run .lockoutRise on).recovery.state = .cooling ∧ (run .lockoutRise on).burner.state = .lockedOut := by
  decide +kernel

theorem test_readbackExpiry_settles : ((run (.readbackExpiry .pump) on).relay .pump).phase = .settled := by
  decide +kernel

theorem test_contactSenseChange_faults :
    (run (.contactSenseChange .reset true) (run (.readbackExpiry .reset) on)).burner.state = .outputFault := by
  decide +kernel

theorem test_alarmSend_takes_head :
    (run .alarmSend (run (.contactSenseChange .pump true) (run (.readbackExpiry .pump) on))).portB.alarm.map (·.payload)
      = some [11, 2, 0, 1, 1] := by decide +kernel

theorem test_statusNow_packs :
    ((run (.statusNow rq) tool).mgmt.hand.bind (·.reply)).map (·.payload)
      = some [13, 0, 0x10, 0x30, 0xFF, 0xFF, 0x80, 0] := by decide +kernel

theorem test_writeNozzleRate_clamps :
    (run (.writeNozzleRate rq [0xFF, 0xFF]) tool).settings.accounts.nozzleRate = 20000 := by decide +kernel

theorem test_writeField_wrong_size :
    ((run (.writeNozzleRate rq [1]) tool).mgmt.hand.bind (·.reply)).map (·.payload) = some [2, 6] := by decide +kernel

theorem test_setFloor_clamps : (run (.setFloor rq 9) tool).zones.floor = 7 := by decide +kernel

theorem test_forcePoll_polls :
    (run (.forcePoll rq 30) tool).portB.poll.map (·.frame) = some (frame 30 0 3 1 []) := by decide +kernel

theorem test_decode_spells_none : on.withFetchWord 32 0xFFFFFFFF = on := by decide +kernel

/-! ## Witnesses: the hypotheses of each statement, clause by clause, met by a state -/

/-- The clauses of `ZonesSettled`, in a form that is evaluated. -/
def settledCheck (s : State) : Bool :=
  decide (s.zones.floor = floorWanted s)
    && decide (∀ z, (s.zone z).accepted = ((s.zoneCfg z).enable && decideAccepted s.zones.floor (s.zone z).level))
    && decide (∀ z, decidePriority (s.zoneCfg z) (s.zone z) = s.zone z)
    && decide (∀ z, (s.zone z).deferred = decideDeferred (anyPriority s) (s.zoneCfg z) (s.zone z))
    && decide (∀ o, (s.valve o).drive = driveWanted s o)
    && decide (s.zones.demand = demandWanted s) && decide (s.burner.demand = s.zones.demand)

theorem settled_of_check {s : State} (h : settledCheck s = true) : ZonesSettled s := by
  simp only [settledCheck, Bool.and_eq_true, decide_eq_true_eq] at h
  obtain ⟨⟨⟨⟨⟨⟨a, b⟩, c⟩, d⟩, e⟩, f⟩, g⟩ := h
  exact ⟨a, b, c, d, e, f, g⟩

/-- A CYLINDER zone with priority, a ROOM zone it defers, and a burner that fires for the cylinder. -/
def heating : State :=
  let s := withCfg (withCfg on 0 fun c => { c with enable := true }) 1
    fun c => { c with enable := true, type := .cylinder }
  let s := withZone s 0 fun r => { r with demand := .calling, level := 3, accepted := true, deferred := true }
  let s := withZone s 1 fun r =>
    { r with demand := .calling, level := 3, accepted := true, priority := some 0, priorityCall := true }
  let s := s.setValve 1 { drive := true, state := .open, travel := none, switch := some true }
  { s with
    zones := { s.zones with demand := true }
    burner := { s.burner with state := .firing, demand := true, startDelay := none, run := true }
    monitor :=
      { s.monitor with
        burner := { s.monitor.burner with command := true, drive := true }
        pump := { s.monitor.pump with command := true, drive := true } }
    pending := [.serviceInputChange true] }

theorem heating_settled : ZonesSettled heating := settled_of_check (by decide +kernel)

theorem heating_steps : step heating = .next (run (.serviceInputChange true) { heating with pending := [] }) := rfl

theorem heating_idle : heating.store.activity = .idle := by decide +kernel

theorem wit_StepRunsFrontCommand : on.pending = [] := rfl

/-- A store whose running area holds the HARD latch, while the save of a CLEAR_HARD runs. -/
def clearing : State :=
  { savingRun on with store :=
    { (savingRun on).store with running := sealArea runningBytes { hardLatch := true, records := [openRecord] } } }

theorem wit_UnpoweredPartKeepsOnlyTheStore :
    on.powered = true ∧ on.store.activity = .idle ∧ (saving on).store.activity = .savingSettings factoryImage
      ∧ (savingRun on).store.activity = .savingRunning {} ∧ (run .powerLoss on).powered = false
      ∧ on.store.running.contents.hardLatch = false ∧ clearing.store.running.contents.hardLatch = true
      ∧ passes runningBytes clearing.store.running = true := by decide +kernel

/-- R118: a power cut before the save of a CLEAR_HARD completes gives HARD again, with the record OPEN. -/
theorem test_powerLoss_in_clear_hard :
    (run .powerOn (run .powerLoss clearing)).recovery.state = .hard
      ∧ (run .powerOn (run .powerLoss clearing)).recovery.records = [openRecord] := by decide +kernel

theorem wit_StepKeepsInterlock :
    Interlocked heating ∧ ∃ t, step heating = .next t :=
  ⟨⟨by decide +kernel, by decide +kernel, by decide +kernel, by decide +kernel⟩, _, heating_steps⟩

theorem wit_StepKeepsOutputsFollowing : OutputsFollow heating ∧ ∃ t, step heating = .next t :=
  ⟨⟨⟨by decide +kernel, by decide +kernel, by decide +kernel⟩, by intro r; cases r <;> decide +kernel⟩, _,
    heating_steps⟩

theorem wit_StepKeepsZonesSettled : ZonesSettled heating ∧ ∃ t, step heating = .next t :=
  ⟨heating_settled, _, heating_steps⟩

theorem wit_StepKeepsGaugeSettled : GaugeSettled heating ∧ ∃ t, step heating = .next t :=
  ⟨⟨by decide +kernel, by decide +kernel, by decide +kernel, by decide +kernel⟩, _, heating_steps⟩

theorem wit_StepKeepsListsBounded : ListsBounded heating ∧ ∃ t, step heating = .next t :=
  ⟨by constructor <;> first
      | decide +kernel
      | (unfold listLimits; decide +kernel)
      | (unfold runningBounded; decide +kernel)
      | exact fun i h => absurd h (by simp [heating_idle]), _, heating_steps⟩

/-- HARD with its episode's record OPEN, over the outputs of `heating`. -/
def hard : State :=
  withRecovery heating fun r => { r with state := .hard, hardLatch := true, records := [openRecord] }

theorem wit_StepKeepsEpisodesAndOutputs :
    ValvesFollow hard ∧ EpisodeRecorded hard ∧ OutputsHeldOnce hard ∧ ∃ t, step hard = .next t := by
  refine ⟨by constructor <;> decide +kernel, ⟨?_, by decide +kernel, by decide +kernel, ?_, fun i h => absurd h ?_⟩,
    ⟨?_, ?_, fun i h => absurd h ?_⟩, run (.serviceInputChange true) { hard with pending := [] }, rfl⟩
  · unfold onlyNewestOpen; decide +kernel
  · unfold imageRecorded onlyNewestOpen; decide +kernel
  · simp [hard, withRecovery, heating_idle]
  · unfold outputsDistinct; decide +kernel
  · unfold outputsDistinct; decide +kernel
  · simp [hard, withRecovery, heating_idle]

/-- A part without power over a store. -/
def dark (settings : Half) (running : RunningImage) (check : Half) : State :=
  { powered := false, store := { settings := ⟨factoryImage, settings⟩, running := ⟨running, check⟩ } }

/-- A part without power whose settings area holds an enabled zone and a configured station. -/
def darkZone (hold : Nat) : State :=
  let image : SettingsImage :=
    { factoryImage with
      stations := upd factoryImage.stations 1 { cls := .roomUnit }
      settings :=
        { factoryImage.settings with
          zones := upd factoryImage.settings.zones 0 { factoryImage.settings.zones[(0 : ZoneId)] with enable := true, holdTime := hold } } }
  { powered := false, store := { settings := sealArea settingsBytes image, running := sealArea runningBytes {} } }

theorem wit_PowerOnStartsThePart :
    (dark 0 {} 0).powered = false ∧ passes settingsBytes (dark 0 {} 0).store.settings = false
      ∧ passes runningBytes (dark 0 {} 0).store.running = false
      ∧ passes runningBytes (dark 0 {} 0x86C1).store.running = true
      ∧ passes runningBytes (sealArea runningBytes { hardLatch := true }) = true
      ∧ factoryImage.stations[(1 : Addr)].cls = .empty ∧ factoryImage.settings.zones[(0 : ZoneId)].enable = false
      ∧ (darkZone 900).store.settings.contents.stations[(1 : Addr)].cls = .roomUnit
      ∧ (∀ h ∈ [0, 900], passes settingsBytes (darkZone h).store.settings = true
          ∧ (darkZone h).store.settings.contents.settings.zones[(0 : ZoneId)].enable = true
          ∧ (darkZone h).store.settings.contents.settings.zones[(0 : ZoneId)].holdTime = h) := by decide +kernel

theorem wit_SaveCompleteStartsPendingSave :
    ∀ a b : Bool, (pendingSaves a b (saving on)).powered = true
      ∧ (pendingSaves a b (saving on)).store.activity = .savingSettings factoryImage
      ∧ (pendingSaves a b (savingRun on)).store.activity = .savingRunning {}
      ∧ (pendingSaves a b (saving on)).store.settingsPending = a
      ∧ (pendingSaves a b (saving on)).store.runningPending = b := by decide +kernel

theorem wit_TimeBaseCountsAndClosesDays :
    let s (n : Nat) (unset midnight : Bool) : State := { on with time := ⟨n, 0, unset, midnight⟩ }
    (s 86398 true false).time.timeOfDay < 86399 ∧ (s 86399 true false).time.timeOfDay = 86399
      ∧ (s 0 true true).powered = true ∧ (s 0 true true).time.midnight = true ∧ (s 0 true true).time.unset = true
      ∧ (s 0 false true).time.unset = false ∧ (s 0 false true).store.activity = .idle
      ∧ (saving (s 0 false true)).store.activity ≠ .idle := by decide +kernel

theorem wit_BadFrameIsCountedAndDropped :
    lineOpen on .a = true ∧ frameChecks { demand 0 with check := 0 } = false ∧ (demand 0).payload.length = 5
      ∧ (∀ f ∈ [frame 31 0 3 0 [], frame 31 31 3 0 [], frame 32 3 3 0 [], frame 0 3 1 0 [0, 0, 0, 0], frame 0 3 6 0 []],
          frameChecks f = true ∧ isMalformed f = true)
      ∧ 31 < (frame 32 3 3 0 []).dest.toNat ∧ recordedOn on 30 .a = false
      ∧ ¬ 31 < (frame 31 0 3 0 []).dest.toNat ∧ recordedOn tool 2 .a = true := by decide +kernel

/-- Station 3 is pinned to the yard segment. -/
def pinned : State := on.setStation 3 { cls := .roomUnit, segment := some .b, pinned := true }

/-- Station 3 was heard in the last two seconds. -/
def heard : State :=
  on.setStation 3 { cls := .roomUnit, segment := some .a, last := some { kind := 1, seq := 0, window := some 0 } }

/-- A crossing queue A→B that is full. -/
def full : State :=
  { on with portB := { on.portB with queue := List.replicate 8 { frame := demand 31, unicast := false } } }

theorem demand_wellFormed : ∀ d ∈ ([0, 2, 30, 31] : List Byte), wellFormedFrom 3 (demand d) := by
  unfold wellFormedFrom; decide +kernel

theorem request_wellFormed : wellFormedFrom 1 (frame 0 1 6 0 [13]) ∧ wellFormedFrom 3 (frame 0 3 6 0 [13]) := by
  unfold wellFormedFrom; decide +kernel

theorem wit_FrameNotAcceptedIsAnswered :
    wellFormedFrom 3 (demand 0) ∧ lineOpen pinned .a = true
      ∧ ((pinned.station 3).pinned = true ∧ (pinned.station 3).segment = some (otherSegment .a))
      ∧ (conflicts .a (heard.station 3) = false
          ∧ (heard.station 3).last = some { kind := (demand 0).kind, seq := (demand 0).seq, window := some 0 })
      ∧ (conflicts .a (on.station 3) = false ∧ isDuplicate (frame 0 3 6 0 [13]) (on.station 3) = false
          ∧ rightsOf on 3 = none)
      ∧ (rightsOf tool 1 ≠ none ∧ (run (.statusNow rq) tool).mgmt.hand ≠ none
          ∧ rightsOf (run (.statusNow rq) tool) 1 ≠ none)
      ∧ (partAnswers full .a (demand 30) = true ∧ crosses full .a (demand 30) = true
          ∧ (full.port (otherSegment .a)).queue.length = 8) :=
  ⟨demand_wellFormed 0 (by decide), by decide +kernel⟩

theorem wit_AcceptedFrameIsRecordedAndForwarded :
    wellFormedFrom 3 (demand 0) ∧ wellFormedFrom 3 (demand 2) ∧ wellFormedFrom 3 (demand 30)
      ∧ wellFormedFrom 3 (demand 31)
      ∧ (conflicts .a (full.station 3) = false ∧ isDuplicate (demand 0) (full.station 3) = false)
      ∧ (partAnswers tool .a (demand 2) = false ∧ crosses tool .a (demand 2) = false)
      ∧ (partAnswers on .a (demand 30) = true ∧ crosses on .a (demand 30) = true ∧ on.portB.queue.length = 0)
      ∧ (partAnswers full .a (demand 31) = false ∧ crosses full .a (demand 31) = true)
      ∧ ((heard.station 3).cls = .roomUnit ∧ (on.station 3).cls = .empty ∧ (demand 31).kind = 1
          ∧ isDuplicate (frame 31 3 3 0 []) (on.station 3) = false ∧ (frame 31 3 3 0 []).kind = 3
          ∧ (on.station 3).presence ≠ .present) :=
  ⟨demand_wellFormed 0 (by decide), demand_wellFormed 2 (by decide), demand_wellFormed 30 (by decide),
    demand_wellFormed 31 (by decide), by decide +kernel⟩

theorem wit_RequestFrameReachesManagement :
    wellFormedFrom 1 (frame 0 1 6 0 [13]) ∧ conflicts .a (tool.station 1) = false
      ∧ isDuplicate (frame 0 1 6 0 [13]) (tool.station 1) = false ∧ rightsOf tool 1 = some .serviceTool
      ∧ tool.mgmt.hand = none
      ∧ requestOf (.statusNow rq) = some ({ station := 1, segment := .a, seq := 0 }, 13, [])
      ∧ (frame 0 1 6 0 [13]).payload = 13 :: []
      ∧ (({ tool with table := { tool.table with inFlight := some { station := 1, onA := true, onB := false } } } : State
          ).table.inFlight.map (·.station)) = some 1 :=
  ⟨request_wellFormed.1, by decide +kernel⟩

/-- A rule that takes every frame, in one place of the table. -/
def ruled (i : Fin 16) (action : RuleAction) : State :=
  { on with settings := { on.settings with
      rules := upd on.settings.rules i
        { enable := true, sourceMask := 31, destMask := 31, kinds := 0xFFFF, action := action } } }

theorem wit_FirstMatchingRuleElseDefaultForwards :
    (demand 31).dest ≠ 0 ∧ (∀ i : Fin 16, ruleMatches .a (demand 31) on.settings.rules[i] = false)
      ∧ (∀ a ∈ [RuleAction.forward, .block, .pass],
          ruleMatches .a (demand 31) (ruled 0 a).settings.rules[(0 : Fin 16)] = true
            ∧ (ruled 0 a).settings.rules[(0 : Fin 16)].action = a
            ∧ ruleMatches .a (demand 31) (ruled 15 a).settings.rules[(15 : Fin 16)] = true
            ∧ ∀ j : Fin 16, j < 15 → ruleMatches .a (demand 31) (ruled 15 a).settings.rules[j] = false) := by
  decide +kernel

def slotted (f : Frame) : SlotEntry := { frame := f, attempts := 1, wait := some 100 }

def queued (n : Nat) : QueueEntry := { frame := demand 2, unicast := true, attempts := n, wait := some 250 }

def portWith (p : Port) : State := { on with portA := p }

theorem wit_SegmentIsTakenAndFreed :
    lineOpen on .a = true ∧ isSending (portWith { occupancy := .sending .poll (demand 2) }) .a = true
      ∧ (portWith { occupancy := .slot (some .ack) }).portA.occupancy = .slot (some .ack)
      ∧ (portWith { occupancy := .quiet }).portA.occupancy = .quiet
      ∧ (portWith { occupancy := .hold }).portA.occupancy = .hold ∧ on.portA.occupancy = .free
      ∧ (portWith { occupancy := .late none }).portA.occupancy = .late none
      ∧ (portWith { queue := [queued 1] }).portA.queue = [queued 1]
      ∧ (portWith { reply := some (slotted (demand 2)) }).portA.reply = some (slotted (demand 2))
      ∧ (portWith { poll := some (slotted (demand 2)) }).portA.poll = some (slotted (demand 2)) := by decide +kernel

/-- In each, the port of segment A is free and the named candidate is the first that is ready. -/
theorem wit_SelectionTakesFirstReadyCandidate :
    let waiting := slotted (demand 2)
    let ready : SlotEntry := { waiting with wait := none }
    let p : Port := { reply := some waiting, poll := some waiting }
    (portWith { p with reply := some ready }).portA.reply = some ready ∧ ready.wait = none ∧ waiting.wait ≠ none
      ∧ (portWith { p with poll := some ready }).portA.poll = some ready
      ∧ (portWith { p with alarm := some (demand 31) }).portA.alarm = some (demand 31)
      ∧ (portWith { p with status := some (demand 31) }).portA.status = some (demand 31)
      ∧ (portWith { p with queue := [{ queued 1 with wait := none }] }).portA.status = none
      ∧ (portWith { p with queue := [queued 1] }).portA.occupancy = .free ∧ (queued 1).wait ≠ none := by
  decide +kernel

theorem wit_SentFrameLeavesOrAwaitsAnswer :
    (portWith { occupancy := .sending .alarm (demand 31) }).portA.occupancy = .sending .alarm (demand 31)
      ∧ (demand 31).dest = 31 ∧ (demand 2).dest ≠ 31
      ∧ (portWith { occupancy := .sending .status (demand 31), status := some (demand 31) }).portA.status
          = some (demand 31)
      ∧ (portWith { occupancy := .sending .crossing (demand 31), queue := [queued 0] }).portA.queue = [queued 0]
      ∧ (portWith { occupancy := .sending .reply (demand 2), reply := some (slotted (demand 2)) }).portA.reply
          = some (slotted (demand 2))
      ∧ (portWith { occupancy := .sending .poll (demand 2), poll := some (slotted (demand 2)) }).portA.poll
          = some (slotted (demand 2)) := by decide +kernel

/-- A POLL of station 2 on both segments, with the part in its ack slot on segment A, or after it. -/
def polling (late withdrawn : Bool) (n : Nat) (i : InFlight) (p : Port) : State :=
  { on with
    portA :=
      { occupancy := if late then .late (some (.poll, demand 2)) else .awaiting .poll (demand 2)
        poll := some { slotted (demand 2) with attempts := n, withdrawn := withdrawn } }
    portB := p
    table := { on.table with inFlight := some i } }

theorem wit_AnswerDecidesCrossingAttempt :
    (∀ n ∈ [3, 4], ∀ late : Bool,
        let o (c : Candidate) : Occupancy := if late then .late (some (c, demand 2)) else .awaiting c (demand 2)
        let p : Port := { occupancy := o .crossing, queue := [queued n] }
        let r : Port := { occupancy := o .reply, reply := some { slotted (demand 2) with attempts := n } }
        (portWith p).portA.occupancy = o .crossing ∧ (portWith p).portA.queue = [queued n]
          ∧ addrOf (demand 2).dest = some 2 ∧ (queued n).attempts = n
          ∧ (portWith r).portA.occupancy = o .reply
          ∧ (portWith r).portA.reply = some { slotted (demand 2) with attempts := n })
      ∧ (∀ late w : Bool,
        let s := polling late w 3 { station := 2, onA := true, onB := true } { poll := some (slotted (demand 2)) }
        s.portA.occupancy = (if late then .late (some (.poll, demand 2)) else .awaiting .poll (demand 2))
          ∧ s.portA.poll = some { slotted (demand 2) with attempts := 3, withdrawn := w }
          ∧ s.table.inFlight = some { station := 2, onA := true, onB := true }
          ∧ s.portB.nextPoll = none ∧ pollUnderWay s.portB = false)
      ∧ pollUnderWay { occupancy := .sending .poll (demand 2), poll := some (slotted (demand 2)) } = true := by
  decide +kernel

/-- R1: an answer character that ends after its slot has closed holds the segment until then, and decides the attempt. -/
theorem test_ackSlotClose_arriving :
    let s := portWith { occupancy := .awaiting .crossing (demand 2), queue := [queued 1] }
    let u := run (.ackSlotClose ⟨.a, true⟩) s
    (run (.transmitSelection .a) u).portA.occupancy = .late (some (.crossing, demand 2)) ∧ u.portA.queue = [queued 1]
      ∧ (run (.answerCharacterReceived .a 0x6A) u).portA.occupancy = .free
      ∧ (run (.answerCharacterReceived .a 0x6A) u).portA.queue = [] := by decide +kernel

/-- R1: a broadcast has no ack slot: its hold ends whatever arrives, and a character in it starts a new frame, also one with the
value of an answer. -/
theorem test_broadcast_hold :
    let s := run (.frameSent .a) (portWith { occupancy := .sending .alarm (demand 31), alarm := some (demand 31) })
    s.portA.occupancy = .hold
      ∧ (run (.ackSlotClose ⟨.a, true⟩) s).portA.occupancy = .free
      ∧ (run (.answerCharacterReceived .a 0x6A) s).portA.occupancy = .receiving := by decide +kernel

theorem wit_StationTimesRunOut :
    (heard.station 3).last = some { kind := 1, seq := 0, window := some 0 }
      ∧ (∀ p ∈ [Presence.present, .unknown], ∀ age ∈ [900, 2699],
          let s := on.setStation 3 { cls := .roomUnit, presence := p, age := age, watched := true }
          (s.station 3).presence = p ∧ (s.station 3).silence ≤ (s.station 3).age
            ∧ (s.station 3).age < min (3 * (s.station 3).silence) 65535
            ∧ enableOf s.settings.alarms .stationSilent = true)
      ∧ (∀ p ∈ [Presence.present, .unknown, .silent],
          let s := on.setStation 3 { cls := .roomUnit, presence := p, age := 2700, watched := true }
          (s.station 3).presence ≠ .absent ∧ min (3 * (s.station 3).silence) 65535 ≤ (s.station 3).age
            ∧ enableOf s.settings.alarms .stationAbsent = true) := by decide +kernel

/-- A poll of station 3 that has been sent, with its answer wait over. -/
def polled : State :=
  { on with table := { on.table with
      inFlight := some { station := 3, onA := true, onB := true, phase := .awaiting (some 0) } } }

theorem wit_MissedMarksMakeAbsent :
    wellFormedFrom 3 (demand 0) ∧ (3 : Addr) ≠ 0 ∧ ((on.setStation 3 { marks := 2, cls := .roomUnit }).station 3).marks = 2
      ∧ ((on.setStation 3 { marks := 2 }).station 3).cls = .empty
      ∧ ((on.setStation 3 { marks := 3 }).station 3).marks = 3
      ∧ polled.table.inFlight = some { station := 3, onA := true, onB := true, phase := .awaiting (some 0) }
      ∧ (∀ b, (polled.station b).poll = false) ∧ polled.table.forced = none
      ∧ (∀ lost : Bool,
          let s := polling false false 1 { station := 2, onA := true, onB := true, undeliveredB := lost } {}
          s.portA.occupancy = .awaiting .poll (demand 2) ∧ s.portA.nextPoll = none
            ∧ (s.table.inFlight.map fun i => i.onB && !i.undeliveredB) = some (!lost))
      ∧ lineOpen polled .a = true ∧ conflicts .a (polled.station 3) = false
      ∧ isDuplicate (demand 0) (polled.station 3) = false ∧ (demand 0).kind ≠ 6 ∧ (demand 0).dest = 0 :=
  ⟨demand_wellFormed 0 (by decide), by decide +kernel⟩

theorem wit_DueStationIsPolled :
    let s := on.setStation 30 { poll := true, countdown := 0 }
    let u := polled.setStation 1 { poll := true, countdown := 0 }
    (s.station 30).countdown = 0 ∧ (s.station 30).poll = true ∧ s.table.inFlight = none ∧ s.table.forced = none
      ∧ s.portA.poll = none ∧ s.portB.poll = none ∧ (u.station 1).countdown = 0 ∧ u.table.inFlight ≠ none := by
  decide +kernel

/-- An enabled zone with no present unit, so that its demand state stands through a re-evaluation. -/
def lone (type : ZoneType) (r : Zone) : State :=
  withZone (withCfg on 0 fun c => { c with enable := true, type := type }) 0 fun _ => r

/-- R182 and spec/00 section 5.2: a frost floor of −10 is clamped to 0, and one of 200 to 150. -/
theorem test_frost_floor_is_signed :
    ((run (.writeZoneSetting rq 0 .frostFloor [0xFF, 0xF6]) tool).zoneCfg 0).frostFloor = 0
      ∧ ((run (.writeZoneSetting rq 0 .frostFloor [0, 200]) tool).zoneCfg 0).frostFloor = 150 := by decide +kernel

/-- R61: a CLOSED valve whose drive is energised is OPENING with its timer started, and an OPEN one whose drive is
de-energised is CLOSED at once when its end switch already counts as open. -/
theorem test_drive_moves_valve :
    driveValve 90 true { state := .closed, travel := none, switch := some false }
        = { drive := true, state := .opening, travel := some 90, switch := some false }
      ∧ driveValve 90 false { drive := true, state := .open, travel := none, switch := some false }
        = { state := .closed, travel := none, switch := some false } := by decide

/-- Zone 0 binds station 3 alone, whose unit record is `r`; it had a present unit when `had` is set. -/
def boundZone (p : Presence) (had : Bool) (r : Option UnitRecord) : State :=
  let s := withCfg (on.setStation 3 { cls := .roomUnit, presence := p }) 0 fun c =>
    { c with enable := true, binding := [3], frostFloor := 50, holdTime := 600 }
  (withZone s 0 fun z => { z with demand := .calling, hadPresent := had, boost := some 9 }).setUnit 3 r

/-- A unit that reports a temperature, calling or satisfied. -/
def reportOf (call : Bool) (t : Int) : Option UnitRecord :=
  some { call := call, temperature := some t, setpoint := 200, boostSeen := false }

/-- R47, R48, R50 to R52: each condition of the demand state, the hold timer, the boost and the frost flag comes about. -/
theorem test_reevaluation_decides :
    let zone (c : ReevalCause) (s : State) := (reevalZone c 0 s).zone 0
    (zone .other (boundZone .present true (reportOf true 49))).demand = .calling
      ∧ (zone .other (boundZone .present true (reportOf true 49))).frost = true
      ∧ (zone .other (boundZone .present true (reportOf false 60))).demand = .idle
      ∧ (zone (.demandFrame false) (boundZone .present true (reportOf false 60))).boost = none
      ∧ (zone (.demandFrame true) (boundZone .present true (reportOf false 60))).boost = some 3600
      ∧ (zone .other (boundZone .silent true (reportOf true 60))).demand = .held
      ∧ (zone .other (boundZone .silent true (reportOf true 60))).hold = some 600
      ∧ (zone .other (boundZone .absent false none)).demand = .fallback := by decide +kernel

theorem wit_ReevaluationSetsLevel :
    ((boundZone .present true none).zoneCfg 0).enable = true ∧
    let zone (type : ZoneType) (r : Zone) := (reevalZone .other 0 (lone type r)).zone 0
    ((lone .room {}).zoneCfg 0).enable = true
      ∧ (zone .room { frost := true, hold := some 9 }).frost = true
      ∧ (zone .outbuilding { hold := some 9 }).frost = false
      ∧ (zone .room { hold := some 9, heldCall := true, boost := some 9 }).demand = .held
      ∧ (zone .room { hold := some 9, heldCall := true, boost := some 9 }).boost = some 9
      ∧ (zone .room { hold := some 9, heldCall := true }).boost = none
      ∧ (zone .room {}).demand = .fallback ∧ (zone .room { hold := some 9 }).demand = .idle
      ∧ (∀ n ∈ [0, 899, 900], (n % 3600 < 60 * ((lone .room {}).zoneCfg 0).duty) = (n < 900)) := by
  refine ⟨by decide +kernel, ?_⟩
  simp only [← and_assoc]
  refine ⟨by decide +kernel, ?_⟩
  intro n hn
  simp only [List.mem_cons, List.not_mem_nil, or_false] at hn
  rcases hn with rfl | rfl | rfl <;> exact propext (by decide +kernel)

theorem wit_DeferralFollowsPriority :
    ZonesSettled heating ∧ (∃ t, step heating = .next t) ∧ (heating.zone 0).deferred = true :=
  ⟨heating_settled, ⟨_, heating_steps⟩, by decide +kernel⟩

theorem wit_DriveFollowsHoldingZone :
    ZonesSettled heating ∧ step heating = .next (run (.serviceInputChange true) { heating with pending := [] })
      ∧ (∀ y z : ZoneId, (heating.zoneCfg y).output.isSome = true → (heating.zoneCfg y).output = (heating.zoneCfg z).output →
          y = z) ∧ (heating.valve 1).drive = true :=
  ⟨heating_settled, heating_steps, by decide +kernel, by decide +kernel⟩

theorem wit_ZoneTimersRunOut :
    ((lone .room { hold := some 0 }).zoneCfg 0).enable = true
      ∧ ((lone .room { hold := some 0 }).zone 0).hold = some 0 ∧ presentUnits (lone .room { hold := some 0 }) 0 = []
      ∧ ((lone .room { hold := some 0 }).zone 0).hadPresent = false
      ∧ ((lone .room { hold := some 9, boost := some 0 }).zone 0).boost = some 0
      ∧ ((lone .room { demand := .fallback }).zone 0).demand = .fallback
      ∧ ((lone .room { demand := .fallback }).zone 0).hold = none
      ∧ (heating.zone 1).priority = some 0 ∧ (∀ y, y ≠ 1 → (heating.zone y).priority = none)
      ∧ ({ on with zones := { on.zones with overrun := some 0 } } : State).zones.overrun = some 0 := by decide +kernel

theorem wit_ValveFollowsItsTable :
    (∀ st ∈ [ValveState.closed, .opening, .open, .closing, .stuckClosed, .stuckOpen], ∀ sw : Bool,
        settledCheck (withValve { state := st, travel := some 0, switch := some sw }) = true
          ∧ ((withValve { state := st, travel := some 0, switch := some sw }).valve 0).switch = some sw
          ∧ ((withValve { state := st, travel := some 0, switch := some sw }).valve 0).travel = some 0)
      ∧ settledCheck on = true ∧ (on.valve 11).switch = none ∧ on.powered = true := by decide +kernel

theorem wit_StartTimersEndInDecisionOrCall :
    let s (st : BurnerState) (d : Bool) (l : List Nat) : State :=
      withBurner on fun b =>
        { b with
          state := st, demand := d, startDelay := some 0, pacing := some 0, preheat := some 0, startTimes := l }
    (s .delayed true []).burner.state = .delayed ∧ (s .delayed false []).burner.startDelay = some 0
      ∧ (s .pacing true []).burner.state = .pacing ∧ (s .pacing true []).burner.pacing = some 0
      ∧ (s .preheat true []).burner.state = .preheat ∧ (s .preheat true []).burner.preheat = some 0
      ∧ ((s .preheat true [5, 4, 3, 2, 1]).burner.startTimes.filter (· < 3600)).length
          < (s .preheat true []).settings.burner.startsPerHour
      ∧ (s .preheat true []).settings.burner.startsPerHour
          ≤ ((s .preheat true [3599, 5, 4, 3, 2, 1]).burner.startTimes.filter (· < 3600)).length := by decide +kernel

theorem wit_CallEndsUnansweredOrInFiring :
    let s (st : BurnerState) (d : Bool) (n : Nat) : State :=
      withBurner on fun b => { b with state := st, demand := d, response := some 0, proving := some 0, callClock := n }
    let filling : State :=
      { s .starting true 76 with
        sampler :=
          { on.sampler with
            phase := .filling
            record := some { number := 0, called := none, preheat := false, volume := none, accepted := 0 } } }
    (∀ d : Bool, (s .called d 0).burner.state = .called ∧ (s .called d 0).burner.demand = d
        ∧ (s .called d 0).burner.response = some 0)
      ∧ (s .starting true 75).burner.proving = some 0
      ∧ (s .starting true 75).burner.callClock ≤ on.settings.burner.slowLimit
      ∧ on.settings.burner.slowLimit < (s .starting true 76).burner.callClock
      ∧ filling.sampler.phase = .filling ∧ filling.sampler.record.isSome = true
      ∧ (withRecovery filling fun r => { r with state := .observing }).recovery.state = .observing := by
  decide +kernel

theorem wit_FiringEndsInWithdrawalOrCall :
    let s (d : Bool) (r : Bool) : State :=
      withBurner on fun b =>
        { b with state := .firing, demand := d, run := r, minimumRun := some 0, flameOut := some 0, start := some true }
    (∀ d r : Bool, (s d r).burner.state = .firing ∧ (s d r).burner.minimumRun = some 0
        ∧ (s d r).burner.flameOut = some 0 ∧ (s d r).burner.demand = d ∧ (s d r).burner.run = r)
      ∧ (withRecovery (s false true) fun r => { r with state := .observing }).recovery.state = .observing := by
  decide +kernel

theorem wit_FiringSecondIsIntegrated :
    let s := withBurner on fun b => { b with state := .firing, firingSecond := some 0 }
    s.powered = true ∧ s.burner.state = .firing ∧ s.burner.firingSecond = some 0 := by decide +kernel

theorem wit_RunEdgesMoveTheSequencer :
    let s (st : BurnerState) (r : Bool) (f : Timer) : State :=
      withBurner on fun b => { b with state := st, run := r, flameOut := f, start := some true }
    let filling : State :=
      { s .runOn true none with
        sampler :=
          { on.sampler with
            phase := .filling
            record := some { number := 0, called := none, preheat := false, volume := none, accepted := 0 } } }
    (s .called false none).burner.state = .called ∧ (s .called false none).burner.run = false
      ∧ (s .starting false (some 1)).burner.flameOut.isSome = true
      ∧ (s .firing false (some 1)).burner.flameOut.isSome = true
      ∧ (s .firing false none).burner.flameOut = none
      ∧ (s .starting true none).burner.run = true ∧ (s .firing true none).burner.run = true
      ∧ (s .runOn true none).burner.demand = false ∧ filling.burner.start = some true
      ∧ filling.sampler.phase = .filling ∧ filling.sampler.record.isSome = true
      ∧ (s .standby true none).burner.run = true := by decide +kernel

/-- A zone that holds output 0, in a settled part whose burner is in a state, with demand standing or not. -/
def calling (v : Valve) (d : Bool) (b : Burner) : State :=
  let s := withCfg on 0 fun c => { c with enable := true, output := some 0 }
  let s := withZone s 0 fun r => { r with demand := .calling, level := 3, accepted := true }
  { s.setValve 0 v with zones := { (s.setValve 0 v).zones with demand := d }, burner := { b with demand := d } }

theorem wit_DemandMovesSequencerAndStartIsTagged :
    (∀ st ∈ [BurnerState.standby, .delayed, .pacing, .preheat, .called, .starting, .firing, .runOn, .lockedOut],
        let s := calling { drive := true, state := .opening, travel := some 9, switch := some false } false
          { state := st }
        let u := calling { drive := true, state := .open, travel := none, switch := some true } true { state := st }
        settledCheck s = true ∧ s.zones.demand = false ∧ s.burner.state = st ∧ holderOf s 0 = some 0
          ∧ (s.zone 0).accepted = true ∧ (s.zone 0).deferred = false ∧ (s.valve 0).state = .opening
          ∧ settledCheck u = true ∧ u.zones.demand = true
          ∧ (∀ z, addsDemand u z = true → (u.zoneCfg z).output = some 0) ∧ (u.valve 0).switch = some true)
      ∧ (∀ d : Bool,
        let s := calling { drive := true, state := if d then .open else .opening } (!d) { state := .standby }
        demandWanted s = d ∧ s.zones.demand = !d)
      ∧ (∀ n ∈ [0, 1, 2], ∀ st ∈ [BurnerState.preheat, .pacing, .delayed],
        let s : State :=
          { on with
            burner :=
              { on.burner with
                state := st, demand := true, preheat := some 0, pacing := some 0, startDelay := some 0 }
            settings :=
              { on.settings with
                sampleInterval := n, burner := { on.settings.burner with preheatTime := 0 } } }
        (s.burner.startTimes.filter (· < 3600)).length < s.settings.burner.startsPerHour
          ∧ choosesPreheat s = false ∧ s.burner.state = st ∧ s.settings.sampleInterval = n
          ∧ s.sampler.phase ≠ .valid ∧ s.sampler.count + 1 = 1) := by decide +kernel

/-- R156: the start that completes the interval is tagged with its own number. -/
theorem test_preheatExpiry_tags :
    ((run .preheatExpiry
      { withBurner on (fun b => { b with state := .preheat, preheat := some 0, preheatChosen := true }) with
        settings := { on.settings with sampleInterval := 1 } }).sampler.record.map fun r => (r.number, r.preheat))
      = some (1, true) := by decide +kernel

/-- Recovery in a state, with an open record of one attempt used. -/
def recovering (f : Recovery → Recovery) : State := withRecovery on fun r => f { r with records := [openRecord] }

theorem wit_LockoutRiseOpensOrContinuesEpisode :
    let idle (n : Nat) (u : Bool) : State :=
      { withRecovery on fun r => { r with suspend := u } with
        settings := { on.settings with recovery := { on.settings.recovery with attempts := n } } }
    let observing := recovering fun r => { r with state := .observing }
    (∀ u : Bool, (idle 2 u).recovery.state = .idle ∧ (idle 2 u).recovery.lockout = false
        ∧ (idle 2 u).recovery.suspend = u)
      ∧ (idle 0 false).settings.recovery.attempts ≤ 0
      ∧ ¬ ((idle 2 false).settings.recovery.attempts ≤ 0
          ∨ (idle 2 false).settings.recovery.windowBudget ≤ (idle 2 false).recovery.resetTimes.length
          ∨ resetHold (idle 2 false) = true)
      ∧ observing.recovery.state = .observing ∧ observing.recovery.lockout = false ∧ attemptsUsed observing = 1
      ∧ (recovering fun r => { r with state := .hard }).recovery.lockout = false := by decide +kernel

theorem wit_LockoutFallReleasesTheBurner :
    let s (st : RecoveryState) (d : Bool) : State :=
      withBurner (recovering fun r => { r with state := st, lockout := true }) fun b =>
        { b with state := .lockedOut, demand := d }
    (∀ st ∈ [RecoveryState.cooling, .resetting, .suspended], ∀ d : Bool, holdsBurner (s st d).recovery.state = true
        ∧ (s st d).recovery.lockout = true ∧ (s st d).burner.state = .lockedOut ∧ (s st d).burner.demand = d)
      ∧ (s .hard true).recovery.state = .hard ∧ (s .idle true).recovery.state = .idle
      ∧ (s .observing true).recovery.state = .observing := by decide +kernel

theorem wit_ResetPulseRunsItsCourse :
    let s (u : Bool) (n : Nat) : State :=
      { recovering (fun r => { r with state := .cooling, coolDown := some 0, suspend := u }) with
        settings := { on.settings with recovery := { on.settings.recovery with attempts := n } } }
    let p : State := recovering fun r => { r with state := .resetting, pulse := some 0, release := some 0 }
    (∀ u : Bool, (s u 2).recovery.state = .cooling ∧ (s u 2).recovery.coolDown = some 0 ∧ (s u 2).recovery.suspend = u)
      ∧ (s false 1).settings.recovery.attempts ≤ attemptsUsed (s false 1)
      ∧ ¬ ((s false 2).settings.recovery.attempts ≤ attemptsUsed (s false 2)
          ∨ (s false 2).settings.recovery.windowBudget ≤ (s false 2).recovery.resetTimes.length
          ∨ resetHold (s false 2) = true)
      ∧ p.recovery.pulse = some 0 ∧ p.recovery.state = .resetting ∧ p.recovery.release = some 0 := by decide +kernel

theorem wit_ObservingAndServiceWaitEnd :
    let o : State := recovering fun r => { r with state := .observing, window := some 0, observe := some 0 }
    let w (l : Bool) : State := withRecovery on fun r => { r with service := some 0, lockout := l }
    o.recovery.state = .observing ∧ o.recovery.window = some 0 ∧ o.recovery.observe = some 0
      ∧ ∀ l : Bool, (w l).recovery.state = .idle ∧ (w l).recovery.service = some 0 ∧ (w l).recovery.lockout = l := by
  decide +kernel

theorem wit_MedianIsInterpolated :
    risingPoints strapping = true
      ∧ strapping = [⟨0, 0⟩] ++ (⟨200, 180⟩ : StrapPoint) :: ⟨600, 900⟩ :: [⟨1000, 1620⟩, ⟨1200, 1800⟩]
      ∧ strapping = [⟨0, 0⟩, ⟨200, 180⟩, ⟨600, 900⟩, ⟨1000, 1620⟩] ++ [(⟨1200, 1800⟩ : StrapPoint)]
      ∧ strapping.head? = some ⟨0, 0⟩ := by decide +kernel

def gauged (w : List Nat) (p : Option Nat) : State :=
  { on with tank := { on.tank with window := w, pendingSlot := p, stale := some 0, volume := some 900, state := .normal } }

/-- A LEVEL of station 3: ullage, sender temperature and status. -/
def level (ullage temperature : Nat) (status : Byte) : Frame :=
  frame 0 3 2 0
    [BitVec.ofNat 8 (ullage / 256), BitVec.ofNat 8 ullage, BitVec.ofNat 8 (temperature / 256), BitVec.ofNat 8 temperature,
      status]

theorem wit_LevelReadingsComeAndGoStale :
    wellFormedFrom 3 (level 600 200 0) ∧ levelUllage (frame 0 3 2 0 [255, 255, 0, 0, 0]) = none
      ∧ ((gauged [600] none).tank.pendingSlot = none ∧ medianOf (gauged [600] none).tank.window = some 600
          ∧ on.settings.tank.jumpLimit < apart 751 600 ∧ apart 750 600 ≤ on.settings.tank.jumpLimit)
      ∧ medianOf (gauged [] none).tank.window = none
      ∧ ((gauged [600] (some 800)).tank.pendingSlot = some 800 ∧ apart 830 800 ≤ 30 ∧ 30 < apart 831 800)
      ∧ ((gauged [600] none).tank.stale = some 0 ∧ (gauged [600] none).tank.volume ≠ none
          ∧ (gauged [600] none).tank.state ≠ .unknown ∧ on.settings.alarms.tankUnknown = true)
      ∧ (medianOf (gauged [] (some 800)).tank.window = none ∧ apart 750 600 ≤ on.settings.tank.jumpLimit)
      ∧ (on.settings.tank.height = 1200
          ∧ (∀ u ∈ [1200, 1300, 1301], levelUllage (level u 850 0) = some u ∧ levelTemperature (level u 850 0) = 850)
          ∧ levelTemperature (level 0 851 0) = 851 ∧ levelWeakEcho (level 0 0 0) = false
          ∧ levelWeakEcho (level 0 0 1) = true)
      ∧ ((level 600 200 0).kind = 2 ∧ (level 600 200 0).dest = 0
          ∧ ((on.setStation 3 { cls := .tankSender }).station 3).cls = .tankSender ∧ (on.station 3).cls = .empty
          ∧ isDuplicate (level 600 200 0) (on.station 3) = false) :=
  ⟨by unfold wellFormedFrom; decide +kernel, by decide +kernel⟩

def booked (n : Nat) (leak : Bool) : State :=
  { on with accounts := { on.accounts with reference := some 1000, strikes := n, leak := leak, spacing := some 0 } }

theorem wit_ReconciliationJudgesVolume :
    on.accounts.reference = none ∧ (booked 0 false).accounts.reference = some 1000
      ∧ 1000 + on.settings.accounts.deliveryThreshold ≤ 1100 ∧ ¬ 1000 + on.settings.accounts.deliveryThreshold ≤ 1099
      ∧ 960 + on.settings.accounts.leakThreshold ≤ 1000 ∧ ¬ 961 + on.settings.accounts.leakThreshold ≤ 1000
      ∧ (booked 1 true).accounts.strikes = 1 ∧ (booked 1 false).accounts.leak = false
      ∧ (booked 2 true).accounts.strikes = 2 ∧ (booked 0 false).accounts.spacing = some 0
      ∧ (level 600 200 0).kind = 2 ∧ isDuplicate (level 600 200 0) (on.station 3) = false
      ∧ tool.mgmt.hand = none ∧ rightsOf tool rq.station = some .serviceTool := by decide +kernel

/-- R130, R131, R142: a first level of 600 mm in a tank of 1,200 mm leaves UNKNOWN for a known state and rebases the UNSET
book; a level that leaves the tank at the cutout makes it EMPTY, counted and raised. -/
theorem test_level_classifies :
    let s := plausibleLevel 600 on
    let e := plausibleLevel 0 on
    s.tank.volume.isSome = true ∧ s.accounts.reference = s.tank.volume ∧ s.accounts.spacing = some 3600
      ∧ s.tank.state ≠ .unknown ∧ e.tank.state = .empty ∧ e.tank.counts.emptyEntries = 1
      ∧ (e.alarms.waiting.any fun a => a.kind == .tankEmpty) = true ∧ e.zones.floor = 7 := by decide +kernel

theorem wit_MismatchLatchesFault :
    ∀ r ∈ [Relay.burner, .reset, .pump, .preheat],
      ((on.relay r).phase = .checking ∧ (on.relay r).timer.isSome = true ∧ (on.relay r).fault = false
          ∧ (on.relay r).sense = (on.relay r).drive)
        ∧ (let s := on.setRelay r { on.relay r with phase := .settled, timer := none }
          (s.relay r).phase = .settled ∧ (s.relay r).fault = false ∧ true ≠ (s.relay r).sense)
        ∧ (let s := on.setRelay r { on.relay r with sense := true }
          (s.relay r).phase = .checking ∧ (s.relay r).sense ≠ (s.relay r).drive) := by decide +kernel

theorem wit_AlarmAndStatusFramesAreSent :
    let s (n : Nat) : State :=
      { on with alarms :=
        { waiting := [{ kind := .lockout, detail := 0, count := 1 }], sendTimes := List.replicate n 0
          spacing := some 0, periodic := some 0 } }
    (s 3).portA.alarm = none ∧ (s 3).portB.alarm = none ∧ (s 3).alarms.sendTimes.length < 4
      ∧ 4 ≤ (s 4).alarms.sendTimes.length ∧ (s 3).alarms.periodic = some 0 ∧ (s 3).alarms.spacing = some 0
      ∧ (s 3).alarms.due = false ∧ ({ (s 3).alarms with due := true } : AlarmUnit).due = true := by decide +kernel

/-! ### Requests -/

theorem tool_accepts : acceptsWrite tool rq := by unfold acceptsWrite acceptsRequest; decide +kernel

theorem serviced_accepts : acceptsWrite serviced rq := by unfold acceptsWrite acceptsRequest; decide +kernel

theorem panel_accepts : acceptsRequest tool panelRq .panel := by unfold acceptsRequest; decide +kernel

theorem wit_RequestIsAnsweredOrRefused :
    requestOf (.statusNow rq) = some (rq, 13, []) ∧ requestOf (.unknownCommand rq 3 [0]) = some (rq, 3, [0])
      ∧ requestOf (.unknownCommand rq 2 [1, 1, 1]) = some (rq, 2, [1, 1, 1]) ∧ acceptsRequest tool rq .serviceTool
      ∧ acceptsRequest tool panelRq .panel ∧ rightsOf on 3 = none ∧ (run (.statusNow rq) tool).mgmt.hand ≠ none
      ∧ 13 < (14 : Byte).toNat ∧ tool.mgmt.service = false ∧ serviced.mgmt.service = true
      ∧ (saving tool).store.activity ≠ .idle :=
  ⟨rfl, rfl, rfl, tool_accepts, panel_accepts, by decide +kernel⟩

theorem wit_ReadFieldAnswersTheValue :
    let h := holding tool rq .serviceTool 1
    acceptsRequest tool rq .serviceTool ∧ (fieldOf (h [6, 0, 16]) 6 0 16).isOk = true
      ∧ (fieldOf (h [11, 4, 2]) 11 4 2).isOk = true ∧ (fieldOf (h [12, 0, 1]) 12 0 1).isOk = true
      ∧ (fieldOf (h [13, 0, 0]) 13 0 0).isOk = false ∧ (fieldOf (h [0, 0, 0]) 0 0 0).isOk = false :=
  ⟨tool_accepts, by decide +kernel⟩

/-- What a field answers to, as a pair of its size and its access code. -/
def accessOf (s : State) (t i n : Nat) : Option (Nat × Access) :=
  match fieldOf s t i n with
  | .ok f => some (f.size, f.access)
  | .error _ => none

theorem wit_WriteFieldChangesTheField :
    acceptsWrite tool rq ∧ acceptsWrite serviced rq ∧ accessOf tool 0 0 0 = none ∧ accessOf tool 6 0 16 = some (1, .r)
      ∧ accessOf tool 6 0 3 = some (2, .w) ∧ accessOf tool 7 0 1 = some (1, .g) ∧ tool.mgmt.service = false
      ∧ serviced.mgmt.service = true
      ∧ (match putField 6 0 3 601 tool with | .written c _ => c | .refused => false) = true
      ∧ (match putField 1 3 1 6 tool with | .written _ _ => false | .refused => true) = true
      ∧ isForced .relayFault = true ∧ isForced .lockout = false ∧ (31 : Byte).toNat ≤ 31
      ∧ 31 < (32 : Byte).toNat :=
  ⟨tool_accepts, serviced_accepts, by decide +kernel⟩

theorem wit_StationWritesChangeTheEntry :
    acceptsWrite tool rq ∧ acceptsWrite (tool.setStation 30 { pinned := true, segment := some .b }) rq
      ∧ (tool.station 30).segment = none ∧ (tool.station 30).pinned = false ∧ tool.table.inFlight = none
      ∧ ((tool.setStation 30 { pinned := true, segment := some .b }).station 30).pinned = true
      ∧ ((tool.setStation 30 { countdown := 0 }).station 30).countdown = 0
      ∧ ({ tool with table := { tool.table with inFlight := polled.table.inFlight } } : State).table.inFlight ≠ none :=
  ⟨tool_accepts, by unfold acceptsWrite acceptsRequest; decide +kernel, by decide +kernel⟩

def zoned (f : ZoneSettings → ZoneSettings) : State := withCfg tool 0 f

theorem wit_ZoneEnableAndOutputWrites :
    acceptsWrite (zoned fun c => { c with enable := true }) rq ∧ acceptsWrite (zoned fun c => { c with holdTime := 0 }) rq
      ∧ acceptsWrite (zoned fun c => { c with output := none }) rq
      ∧ ((zoned fun c => { c with enable := true }).zoneCfg 0).enable = true
      ∧ (tool.zoneCfg 0).enable = false ∧ presentUnits tool 0 = [] ∧ 0 < (tool.zoneCfg 0).holdTime
      ∧ ((zoned fun c => { c with holdTime := 0 }).zoneCfg 0).holdTime = 0
      ∧ (tool.zoneCfg 0).output = some 0 ∧ (tool.zoneCfg 11).output = some 11
      ∧ (let s := withCfg tool 11 fun c => { c with output := none }
        (s.zoneCfg 0).output ≠ some 11 ∧ ∀ y, y ≠ 0 → (s.zoneCfg y).output ≠ some 11) := by
  refine ⟨?_, ?_, ?_, by decide +kernel⟩ <;> unfold acceptsWrite acceptsRequest <;> decide +kernel

theorem wit_ZoneAndFloorSettingWrites :
    acceptsWrite (zoned fun c => { c with enable := true }) rq
      ∧ bindingOf (numberOf [1, 30, 0]) = some [1, 30]
      ∧ tankFloor { tool.settings.common with unknownFloor := 7 } tool.tank.state = 7 ∧ tool.zones.floor = 0 :=
  ⟨by unfold acceptsWrite acceptsRequest; decide +kernel, by decide +kernel⟩

theorem wit_TankWritesRecomputeTheTank :
    acceptsWrite tool rq ∧ tool.settings.tank.height = 1200 ∧ tool.settings.tank.pointCount = 2
      ∧ acceptsWrite { tool with tank := (gauged [600] none).tank } rq :=
  ⟨tool_accepts, by decide +kernel, by decide +kernel, by unfold acceptsWrite acceptsRequest; decide +kernel⟩

theorem wit_RateIntervalAndCommit :
    acceptsWrite tool rq ∧ tool.store.activity = .idle ∧ acceptsWrite (saving tool) rq
      ∧ (saving tool).store.activity ≠ .idle :=
  ⟨tool_accepts, by decide +kernel, by unfold acceptsWrite acceptsRequest; decide +kernel, by decide +kernel⟩

theorem wit_ReloadReplacesTheSettings :
    acceptsWrite tool rq ∧ tool.store.activity = .idle
      ∧ passes settingsBytes ({ contents := factoryImage, check := 0 } : Area SettingsImage) = false
      ∧ factoryImage.stations[(30 : Addr)].cls = .empty ∧ (tool.station 1).configured = true :=
  ⟨tool_accepts, by decide +kernel⟩

theorem wit_FloorAndTimeAreSet :
    acceptsRequest tool panelRq .panel ∧ tool.zones.floor = 0
      ∧ (∃ n : BitVec 24, n.toNat = 86399) ∧ (∃ n : BitVec 24, n.toNat = 86400) :=
  ⟨panel_accepts, by decide +kernel, ⟨86399, rfl⟩, ⟨86400, rfl⟩⟩

theorem wit_SampleReleasedAndLeakAcknowledged :
    acceptsRequest { tool with sampler := { tool.sampler with phase := .valid } } panelRq .panel
      ∧ acceptsRequest
          { tool with
            accounts := { tool.accounts with leak := true }
            recovery := { tool.recovery with state := .suspended, suspend := true } } panelRq .panel
      ∧ tool.sampler.phase ≠ .valid ∧ tool.accounts.leak = false ∧ tool.tank.state ≠ .empty :=
  ⟨by unfold acceptsRequest; decide +kernel, by unfold acceptsRequest; decide +kernel, by decide +kernel⟩

theorem wit_ClearHardEndsHard :
    let s (d : Bool) : State :=
      { serviced with
        recovery := { serviced.recovery with state := .hard, lockout := true, records := [openRecord] }
        burner := { serviced.burner with state := .hardLocked, demand := d } }
    (∀ d : Bool, acceptsWrite (s d) rq) ∧ (s true).mgmt.service = true ∧ (s true).store.activity = .idle
      ∧ (s true).recovery.state = .hard ∧ resetHold (s true) = false ∧ (s false).burner.state = .hardLocked
      ∧ serviced.recovery.state ≠ .hard :=
  ⟨by unfold acceptsWrite acceptsRequest; decide +kernel, by decide +kernel⟩

theorem wit_ClearFaultReleasesTheLatches :
    let s (st : RecoveryState) : State :=
      { serviced with
        burner := { serviced.burner with state := .outputFault }
        recovery := { serviced.recovery with state := st }
        monitor := { serviced.monitor with reset := { serviced.monitor.reset with fault := true, timer := none } } }
    (∀ st ∈ [RecoveryState.idle, .observing, .cooling, .hard], acceptsWrite (s st) rq
        ∧ (s st).burner.state = .outputFault ∧ ((s st).relay .reset).fault = true) ∧ serviced.store.activity = .idle :=
  ⟨by unfold acceptsWrite acceptsRequest; decide +kernel, by decide +kernel⟩

theorem wit_CountersPollAndHandOver :
    acceptsRequest tool rq .serviceTool ∧ acceptsRequest { serviced with table := polled.table } rq .serviceTool
      ∧ 30 < (31 : Byte).toNat ∧ tool.table.inFlight = none ∧ polled.table.inFlight ≠ none
      ∧ (run (.statusNow rq) tool).mgmt.hand.isSome = true
      ∧ ((run (.statusNow rq) tool).mgmt.hand.bind (·.reply)).isSome = true
      ∧ ((run (.statusNow rq) tool).port .a).reply = none
      ∧ ((portWith { reply := some (slotted (demand 2)) }).port .a).reply ≠ none :=
  ⟨tool_accepts, by unfold acceptsRequest; decide +kernel, by decide +kernel⟩

theorem wit_StatusNowAnswersPackedStatus : acceptsRequest tool panelRq .panel := panel_accepts

end Sys2Proof.Tests
end

section
/-! SUPPORT. Priority, deferral and valve drives as an invariant (R57 to R59): what it reads, that OUTPUT_FAULT is left
and entered by reports of the output monitor alone, and that what follows a change at the zones settles it. -/

namespace Sys2Proof.Machine

/-! ## Priority, deferral and drives as an invariant of their own -/

/-- The three clauses of `ZonesSettled` that R58 speaks of. They are kept without the rest of it: nothing that decides
priority, deferral or a drive reads the clause on the floor, on acceptance or on demand. -/
structure DeferralSettled (s : State) : Prop where
  priority : ∀ z, decidePriority (s.zoneCfg z) (s.zone z) = s.zone z
  deferred : ∀ z, (s.zone z).deferred = decideDeferred (anyPriority s) (s.zoneCfg z) (s.zone z)
  drives : ∀ o, (s.valve o).drive = driveWanted s o

theorem ZonesSettled.deferralSettled {s : State} (h : ZonesSettled s) : DeferralSettled s :=
  ⟨h.priority, h.deferred, h.drives⟩

/-- Two states agree on all that `DeferralSettled` reads: the zones' settings and records, the valves, and whether the
burner state is OUTPUT_FAULT. -/
structure ZonesAgree (s t : State) : Prop where
  cfgs : t.settings.zones = s.settings.zones
  zones : t.zones.zones = s.zones.zones
  valves : t.zones.valves = s.zones.valves
  fault : t.burner.state = .outputFault ↔ s.burner.state = .outputFault

namespace ZonesAgree

variable {s t u : State}

theorem refl (s : State) : ZonesAgree s s := ⟨rfl, rfl, rfl, Iff.rfl⟩

theorem trans (h : ZonesAgree s t) (k : ZonesAgree t u) : ZonesAgree s u :=
  ⟨k.cfgs.trans h.cfgs, k.zones.trans h.zones, k.valves.trans h.valves, k.fault.trans h.fault⟩

theorem zoneCfg (h : ZonesAgree s t) (z : ZoneId) : t.zoneCfg z = s.zoneCfg z := by
  simp only [State.zoneCfg, h.cfgs]

theorem zone (h : ZonesAgree s t) (z : ZoneId) : t.zone z = s.zone z := by
  simp only [State.zone, h.zones]

theorem valve (h : ZonesAgree s t) (o : OutputId) : t.valve o = s.valve o := by
  simp only [State.valve, h.valves]

theorem anyPriority (h : ZonesAgree s t) : Machine.anyPriority t = Machine.anyPriority s := by
  simp only [Machine.anyPriority, h.zone]

theorem driveWanted (h : ZonesAgree s t) (o : OutputId) : Machine.driveWanted t o = Machine.driveWanted s o := by
  have hfault : (t.burner.state != .outputFault) = (s.burner.state != .outputFault) := by
    rw [Bool.eq_iff_iff, bne_iff_ne, bne_iff_ne, Ne, h.fault]
  simp only [Machine.driveWanted, holderOf, h.zoneCfg, h.zone, hfault]

theorem settled (h : ZonesAgree s t) (hs : DeferralSettled s) : DeferralSettled t where
  priority z := by rw [h.zoneCfg, h.zone, hs.priority]
  deferred z := by rw [h.zoneCfg, h.zone, h.anyPriority, hs.deferred]
  drives o := by rw [h.valve, h.driveWanted, hs.drives]

end ZonesAgree

/-! ## What priority and deferral decide (R57, R58) -/

/-- Priority reads the acceptance and the level of a zone, which it leaves alone. -/
theorem hasPriorityCall_decidePriority (c : ZoneSettings) (r : Zone) :
    hasPriorityCall c (decidePriority c r) = hasPriorityCall c r := by
  simp only [decidePriority]; (repeat' split) <;> rfl

theorem decidePriority_priorityCall (c : ZoneSettings) (r : Zone) :
    (decidePriority c r).priorityCall = hasPriorityCall c r := by
  simp only [decidePriority]
  split
  · next hcall => split <;> simp_all
  · next hcall => simpa using hcall

theorem decidePriority_of_noCall {c : ZoneSettings} {r : Zone} (h : hasPriorityCall c r = false) :
    decidePriority c r = { r with priorityCall := false, priority := none, spent := false } := by
  simp [decidePriority, h]

theorem decidePriority_of_standingCall {c : ZoneSettings} {r : Zone} (h : hasPriorityCall c r = true)
    (hp : r.priorityCall = true) : decidePriority c r = r := by
  simp [decidePriority, h, hp]

theorem decidePriority_idem (c : ZoneSettings) (r : Zone) :
    decidePriority c (decidePriority c r) = decidePriority c r := by
  cases hcall : hasPriorityCall c r with
  | true =>
    exact decidePriority_of_standingCall (by rw [hasPriorityCall_decidePriority, hcall])
      (by rw [decidePriority_priorityCall, hcall])
  | false =>
    have hkept : hasPriorityCall c (decidePriority c r) = false := by rw [hasPriorityCall_decidePriority, hcall]
    rw [decidePriority_of_noCall hkept, decidePriority_of_noCall hcall]

theorem decidePriority_setDeferred (c : ZoneSettings) (r : Zone) (d : Bool) :
    decidePriority c { r with deferred := d } = { decidePriority c r with deferred := d } := by
  have hcall : hasPriorityCall c { r with deferred := d } = hasPriorityCall c r := rfl
  simp only [decidePriority, hcall]; (repeat' split) <;> rfl

/-- Only a zone with a priority call has priority, so it is a CYLINDER zone. -/
theorem DeferralSettled.cylinder_of_priority {s : State} (h : DeferralSettled s) {z : ZoneId}
    (hp : (s.zone z).priority.isSome = true) : (s.zoneCfg z).type = .cylinder := by
  cases hcall : hasPriorityCall (s.zoneCfg z) (s.zone z) with
  | true =>
    simp only [hasPriorityCall, Bool.and_eq_true, beq_iff_eq] at hcall
    exact hcall.1.1.1.1
  | false =>
    rw [← h.priority z, decidePriority_of_noCall hcall] at hp
    simp at hp

theorem anyPriority_iff (s : State) : anyPriority s = true ↔ ∃ z, (s.zone z).priority.isSome = true := by
  simp [anyPriority, places]

theorem decideDeferred_iff (p : Bool) (c : ZoneSettings) (r : Zone) :
    decideDeferred p c r = true ↔ p = true ∧ c.type = .room ∧ r.accepted = true ∧ 1 ≤ r.level ∧ r.level ≤ 6 := by
  simp [decideDeferred, nonFrost, and_assoc]

/-! ## OUTPUT_FAULT is entered and left only by a report of the output monitor (R93, R94) -/

section
variable (s : State)

@[simp] theorem enterBurner_state (new : BurnerState) : (enterBurner new s).burner.state = new := by
  simp only [enterBurner]
  split
  · next h => exact h.symm
  · simp

@[simp] theorem toPacing_not_outputFault : (toPacing s).burner.state ≠ .outputFault := by simp [toPacing]

@[simp] theorem boxAnswers_not_outputFault : (boxAnswers s).burner.state ≠ .outputFault := by simp [boxAnswers]

@[simp] theorem callBox_not_outputFault : (callBox s).burner.state ≠ .outputFault := by
  simp only [callBox]; split <;> simp

@[simp] theorem beginStart_not_outputFault : (beginStart s).burner.state ≠ .outputFault := by simp [beginStart]

@[simp] theorem proceedStart_not_outputFault : (proceedStart s).burner.state ≠ .outputFault := by
  simp only [proceedStart]; split <;> simp

@[simp] theorem startDecision_not_outputFault : (startDecision s).burner.state ≠ .outputFault := by
  simp only [startDecision]; (repeat' split) <;> simp

theorem decideIfCalled_not_outputFault {s : State} (h : s.burner.state ≠ .outputFault) :
    (decideIfCalled s).burner.state ≠ .outputFault := by
  simp only [decideIfCalled]; split <;> simp [h]

@[simp] theorem toStandby_not_outputFault : (toStandby s).burner.state ≠ .outputFault :=
  decideIfCalled_not_outputFault (by simp)

@[simp] theorem leaveRunOn_not_outputFault : (leaveRunOn s).burner.state ≠ .outputFault :=
  decideIfCalled_not_outputFault (by simp)

@[simp] theorem withdrawCall_not_outputFault : (withdrawCall s).burner.state ≠ .outputFault := by
  simp only [withdrawCall]; split <;> simp

@[simp] theorem takeOut_state (new : BurnerState) (cause : EndCause) : (takeOut new cause s).burner.state = new := by
  simp [takeOut]

@[simp] theorem demandRises_outputFault :
    (demandRises s).burner.state = .outputFault ↔ s.burner.state = .outputFault := by
  simp only [demandRises]; split <;> simp_all

@[simp] theorem demandFalls_outputFault :
    (demandFalls s).burner.state = .outputFault ↔ s.burner.state = .outputFault := by
  simp only [demandFalls]; (repeat' split) <;> simp_all

@[simp] theorem recomputeDemand_outputFault :
    (recomputeDemand s).burner.state = .outputFault ↔ s.burner.state = .outputFault := by
  simp only [recomputeDemand]; (repeat' split) <;> simp

@[simp] theorem holdBurner_outputFault :
    (holdBurner s).burner.state = .outputFault ↔ s.burner.state = .outputFault := by
  simp only [holdBurner]; split <;> simp_all

@[simp] theorem releaseBurner_outputFault :
    (releaseBurner s).burner.state = .outputFault ↔ s.burner.state = .outputFault := by
  simp only [releaseBurner]; split <;> simp_all

@[simp] theorem hardBurner_outputFault :
    (hardBurner s).burner.state = .outputFault ↔ s.burner.state = .outputFault := by
  simp only [hardBurner]; split <;> simp_all

@[simp] theorem unhardBurner_outputFault :
    (unhardBurner s).burner.state = .outputFault ↔ s.burner.state = .outputFault := by
  simp only [unhardBurner]; split <;> simp_all

end

/-! ## What follows a change at the zones settles them -/

section
variable (s : State)

@[simp] theorem energise_drive (n : Nat) (v : Valve) : (energise n v).drive = true := by
  simp only [energise, toOpening]; (repeat' split) <;> rfl

@[simp] theorem deenergise_drive (n : Nat) (v : Valve) : (deenergise n v).drive = false := by
  simp only [deenergise, toClosing]; (repeat' split) <;> rfl

@[simp] theorem driveValve_drive (n : Nat) (d : Bool) (v : Valve) : (driveValve n d v).drive = d := by
  unfold driveValve
  split
  · next h => exact h.symm
  · cases d <;> simp

@[simp] theorem recomputePriority_zone (z : ZoneId) :
    (recomputePriority s).zone z = decidePriority (s.zoneCfg z) (s.zone z) := by
  simp only [State.zone, recomputePriority, State.setZones, mapAll_get]

@[simp] theorem recomputeDeferral_zone (z : ZoneId) :
    (recomputeDeferral s).zone z
      = { s.zone z with deferred := decideDeferred (anyPriority s) (s.zoneCfg z) (s.zone z) } := by
  simp only [State.zone, recomputeDeferral, State.setZones, mapAll_get]

@[simp] theorem recomputeDrives_drive (o : OutputId) :
    ((recomputeDrives s).valve o).drive = driveWanted s o :=
  (congrArg Valve.drive (mapAll_get _ _ o)).trans (driveValve_drive _ _ _)

/-- Deferral is no part of what priority reads, so recomputing it leaves who has priority. -/
theorem recomputeDeferral_anyPriority : anyPriority (recomputeDeferral s) = anyPriority s := by
  simp only [anyPriority, recomputeDeferral_zone]

theorem recomputeDrives_settled (hp : ∀ z, decidePriority (s.zoneCfg z) (s.zone z) = s.zone z)
    (hd : ∀ z, (s.zone z).deferred = decideDeferred (anyPriority s) (s.zoneCfg z) (s.zone z)) :
    DeferralSettled (recomputeDrives s) :=
  ⟨hp, hd, recomputeDrives_drive s⟩

theorem recomputePump_agrees : ZonesAgree s (recomputePump s) := by constructor <;> simp

theorem recomputeDemand_agrees : ZonesAgree s (recomputeDemand s) := by constructor <;> simp


@[simp] theorem recomputePriority_zoneCfg (z : ZoneId) : (recomputePriority s).zoneCfg z = s.zoneCfg z := by
  simp [State.zoneCfg]

@[simp] theorem recomputeDeferral_zoneCfg (z : ZoneId) : (recomputeDeferral s).zoneCfg z = s.zoneCfg z := by
  simp [State.zoneCfg]

/-- Whatever the zones have become, what follows settles priority, then deferral, then the drives, each from the one
before; the pump and burner demand, which follow, are read by none of the three. -/
theorem settle_settled : DeferralSettled (settle s) := by
  refine (recomputeDemand_agrees _).settled ((recomputePump_agrees _).settled (recomputeDrives_settled _ ?_ ?_))
  · intro z
    rw [recomputeDeferral_zoneCfg, recomputeDeferral_zone, decidePriority_setDeferred, recomputePriority_zoneCfg,
      recomputePriority_zone, decidePriority_idem]
  · intro z
    rw [recomputeDeferral_anyPriority, recomputeDeferral_zoneCfg, recomputeDeferral_zone]
    rfl

end
end Sys2Proof.Machine
end

section
/-! SUPPORT. What each block's operations do to priority, deferral and the drives: they leave all that these read as it
stands, or they settle them again. -/

namespace Sys2Proof.Machine

/-! ## Operations that leave the zones' decisions, and operations that settle them -/

section
variable (s : State)

/-- An operation that touches neither the zones' settings, nor the zone unit, nor the burner. -/
theorem ZonesAgree.of_untouched {s t : State} (hc : t.settings.zones = s.settings.zones) (hz : t.zones = s.zones)
    (hb : t.burner = s.burner) : ZonesAgree s t :=
  ⟨hc, by rw [hz], by rw [hz], by rw [hb]⟩

theorem DeferralSettled.of_untouched {s t : State} (h : DeferralSettled s)
    (hc : t.settings.zones = s.settings.zones) (hz : t.zones = s.zones) (hb : t.burner = s.burner) :
    DeferralSettled t :=
  (ZonesAgree.of_untouched hc hz hb).settled h

theorem DeferralSettled.of_parts {s t : State} (h : DeferralSettled s) (hc : t.settings.zones = s.settings.zones)
    (hz : t.zones.zones = s.zones.zones) (hv : t.zones.valves = s.zones.valves)
    (hf : t.burner.state = .outputFault ↔ s.burner.state = .outputFault) : DeferralSettled t :=
  (ZonesAgree.mk hc hz hv hf).settled h

theorem raise_agrees (k : AlarmKind) (d : BitVec 24) : ZonesAgree s (raise k d s) := by constructor <;> simp

theorem buildStatus_agrees : ZonesAgree s (buildStatus s) := by constructor <;> simp

theorem reportStatus_agrees : ZonesAgree s (reportStatus s) := by constructor <;> simp

theorem setStation_agrees (a : Addr) (e : Station) : ZonesAgree s (s.setStation a e) := .of_untouched rfl rfl rfl

theorem setUnit_agrees (a : Addr) (u : Option UnitRecord) : ZonesAgree s (s.setUnit a u) := ⟨rfl, rfl, rfl, Iff.rfl⟩

theorem setPort_agrees (g : Segment) (p : Port) : ZonesAgree s (s.setPort g p) := by constructor <;> simp

theorem setOccupancy_agrees (g : Segment) (o : Occupancy) : ZonesAgree s (s.setOccupancy g o) := by
  constructor <;> simp

theorem countLine_agrees (g : Segment) (f : LineCounts → LineCounts) : ZonesAgree s (s.countLine g f) := by
  constructor <;> simp

theorem countGauge_agrees (f : GaugeCounts → GaugeCounts) : ZonesAgree s (s.countGauge f) := .of_untouched rfl rfl rfl

/-! ### The zone unit -/

theorem reevalWhere_settled (c : ReevalCause) (p : ZoneId → Bool) : DeferralSettled (reevalWhere c p s) :=
  settle_settled _

theorem reevalBinding_settled (c : ReevalCause) (a : Addr) : DeferralSettled (reevalBinding c a s) :=
  reevalWhere_settled _ _ _

variable {s}

theorem recomputeFloor_settled (h : DeferralSettled s) : DeferralSettled (recomputeFloor s) := by
  simp only [recomputeFloor]
  split
  · exact h
  · exact (reportStatus_agrees _).settled (settle_settled _)

theorem writeOutput_settled (h : DeferralSettled s) (o : Option OutputId) (z : ZoneId) :
    DeferralSettled (writeOutput o z s) := by
  unfold writeOutput
  split
  · exact h
  · exact settle_settled _

variable (s)

/-! ### The recovery unit and the output monitor -/

theorem enterRecovery_agrees (n : RecoveryState) : ZonesAgree s (enterRecovery n s) := by constructor <;> simp

theorem markHand_agrees : ZonesAgree s (markHand s) := by constructor <;> simp

theorem enterHard_agrees (r : HardReason) : ZonesAgree s (enterHard r s) :=
  ⟨by simp, by simp, by simp, by simp [enterHard]⟩

theorem toCooling_agrees : ZonesAgree s (toCooling s) := by constructor <;> simp

theorem automaticPulse_agrees : ZonesAgree s (automaticPulse s) := by constructor <;> simp

theorem budgetThen_agrees {f : State → State} (hf : ZonesAgree s (f s)) : ZonesAgree s (budgetThen f s) := by
  unfold budgetThen
  split
  · exact enterHard_agrees s _
  · exact hf

theorem testsThen_agrees {f : State → State} (hf : ZonesAgree s (f s)) : ZonesAgree s (testsThen f s) := by
  unfold testsThen
  split
  · exact enterRecovery_agrees s _
  · exact budgetThen_agrees s hf

@[simp] theorem testsThenCooling_outputFault :
    (testsThen toCooling s).burner.state = .outputFault ↔ s.burner.state = .outputFault :=
  (testsThen_agrees s (toCooling_agrees s)).fault

theorem openEpisode_agrees : ZonesAgree s (openEpisode s) :=
  ⟨by simp, by simp, by simp, by simp [openEpisode]⟩

theorem continueEpisode_agrees : ZonesAgree s (continueEpisode s) :=
  ⟨by simp, by simp, by simp, by simp [continueEpisode]⟩

theorem toObserving_agrees : ZonesAgree s (toObserving s) :=
  ⟨by simp, by simp, by simp, by simp [toObserving]⟩

theorem suspendTold_agrees : ZonesAgree s (suspendTold s) := by
  simp only [suspendTold]
  split
  · constructor <;> simp
  · split
    · refine ZonesAgree.trans ?_ (budgetThen_agrees _ (toCooling_agrees _))
      exact .of_untouched rfl rfl rfl
    · exact .of_untouched rfl rfl rfl

theorem cutPulse_agrees : ZonesAgree s (cutPulse s) := by constructor <;> simp

theorem recoveryFault_agrees (r : Relay) : ZonesAgree s (recoveryFault r s) := by
  simp only [recoveryFault]
  split
  · exact (cutPulse_agrees s).trans (enterHard_agrees _ _)
  · exact cutPulse_agrees s

theorem clearHard_agrees : ZonesAgree s (clearHard s) :=
  ⟨by simp, by simp, by simp, by simp [clearHard]⟩

theorem setRelay_agrees (r : Relay) (x : RelayState) : ZonesAgree s (s.setRelay r x) := .of_untouched rfl rfl rfl

variable {s}

/-- A mismatch on a box relay takes the burner to OUTPUT_FAULT, and the valve drives follow at once (R67, R93). -/
theorem mismatch_settled (h : DeferralSettled s) (r : Relay) : DeferralSettled (mismatch r s) := by
  simp only [mismatch]
  split
  · exact (recoveryFault_agrees _ r).settled (settle_settled _)
  · exact ((setRelay_agrees _ _ _).trans (raise_agrees _ _ _)).settled h

theorem clearFaults_settled (h : DeferralSettled s) : DeferralSettled (clearFaults s) := by
  simp only [clearFaults]
  refine forEach_preserves DeferralSettled _ (fun r t => (setRelay_agrees t r _).settled) _ _ ?_
  split
  · exact settle_settled _
  · exact h.of_untouched (by simp) (by simp) (by simp)

variable (s)

/-! ### The fuel accounts and the tank gauge -/

theorem leakStrike_agrees (m b : Nat) : ZonesAgree s (leakStrike m b s) := by
  simp only [leakStrike]
  split
  · exact .of_untouched rfl rfl rfl
  · split
    · split
      · exact .of_untouched rfl rfl rfl
      · exact ZonesAgree.trans (.of_untouched (by simp) (by simp) (by simp)) (suspendTold_agrees _)
    · exact .refl s

theorem judgeVolume_agrees (m : Nat) : ZonesAgree s (judgeVolume m s) := by
  unfold judgeVolume
  split
  · exact .of_untouched rfl rfl rfl
  · split
    · constructor <;> simp
    · split
      · exact leakStrike_agrees s _ _
      · exact .of_untouched rfl rfl rfl

theorem accountsTold_agrees (v : Option Nat) : ZonesAgree s (accountsTold v s) := by
  unfold accountsTold
  split
  · exact .refl s
  · split
    · refine ZonesAgree.trans ?_ (judgeVolume_agrees _ _)
      exact .of_untouched rfl rfl rfl
    · exact .refl s

theorem acknowledgeLeak_agrees : ZonesAgree s (acknowledgeLeak s) := by
  simp only [acknowledgeLeak]
  split
  · refine ZonesAgree.trans ?_ (suspendTold_agrees _)
    exact .of_untouched rfl rfl rfl
  · exact .of_untouched rfl rfl rfl

variable {s}

theorem enterTank_settled (h : DeferralSettled s) (c : UnknownCause) (l : Option Nat) (x : TankState) :
    DeferralSettled (enterTank c l x s) := by
  refine ((suspendTold_agrees _).trans (reportStatus_agrees _)).settled (recomputeFloor_settled ?_)
  exact h.of_untouched (by simp) (by simp) (by simp)

theorem reclassify_settled (h : DeferralSettled s) (c : UnknownCause) (l : Option Nat) :
    DeferralSettled (reclassify c l s) := by
  simp only [reclassify]
  split
  · exact h
  · exact enterTank_settled h _ _ _

theorem recomputeVolume_settled (h : DeferralSettled s) (c : UnknownCause) :
    DeferralSettled (recomputeVolume c s) := by
  simp only [recomputeVolume]
  split
  · exact h
  · refine reclassify_settled ((accountsTold_agrees _ _).settled ?_) _ _
    exact h.of_untouched rfl rfl rfl

theorem retestTable_settled (h : DeferralSettled s) (c : UnknownCause) : DeferralSettled (retestTable c s) := by
  refine recomputeVolume_settled ?_ c
  exact h.of_untouched rfl rfl rfl

theorem enterLevels_settled (h : DeferralSettled s) (l : List Nat) : DeferralSettled (enterLevels l s) := by
  refine recomputeVolume_settled ?_ _
  exact h.of_untouched rfl rfl rfl

theorem judgeLevel_settled (h : DeferralSettled s) (n : Nat) : DeferralSettled (judgeLevel n s) := by
  unfold judgeLevel
  split
  · exact enterLevels_settled h _
  · split
    · exact enterLevels_settled h _
    · exact h.of_untouched rfl rfl rfl

theorem plausibleLevel_settled (h : DeferralSettled s) (n : Nat) : DeferralSettled (plausibleLevel n s) := by
  simp only [plausibleLevel]
  split
  · exact judgeLevel_settled h n
  · split
    · refine enterLevels_settled ?_ _
      exact h.of_untouched rfl rfl rfl
    · refine judgeLevel_settled ?_ n
      exact h.of_untouched rfl rfl rfl

theorem takeLevel_settled (h : DeferralSettled s) (n : Nat) (f : Frame) : DeferralSettled (takeLevel n f s) := by
  simp only [takeLevel]
  split
  · exact (countGauge_agrees s _).settled h
  · split
    · exact h.of_untouched (by simp) (by simp) (by simp)
    · refine plausibleLevel_settled ?_ _
      split <;> exact h.of_untouched rfl rfl rfl

theorem setTank_settled (h : DeferralSettled s) (t : TankSettings) : DeferralSettled (s.setTank t) :=
  h.of_untouched rfl rfl rfl

theorem emptyWindow_settled (h : DeferralSettled s) : DeferralSettled (emptyWindow s) :=
  h.of_untouched rfl rfl rfl

theorem writeHeight_settled (h : DeferralSettled s) (n : Nat) : DeferralSettled (writeHeight n s) := by
  unfold writeHeight
  split
  · exact h
  · exact retestTable_settled (emptyWindow_settled (setTank_settled h _)) _

theorem writeSlot_settled (h : DeferralSettled s) (i : Fin 16) (f : StrapPoint → StrapPoint) :
    DeferralSettled (writeSlot i f s) := by
  simp only [writeSlot]
  split
  · exact retestTable_settled (setTank_settled h _) _
  · exact setTank_settled h _

theorem writePointCount_settled (h : DeferralSettled s) (n : Nat) : DeferralSettled (writePointCount n s) :=
  retestTable_settled (setTank_settled h _) _

theorem writeThreshold_settled (h : DeferralSettled s) (f : TankSettings → TankSettings) :
    DeferralSettled (writeThreshold f s) :=
  reclassify_settled (setTank_settled h _) _ _

variable (s)

/-! ### The station table and the ports -/

theorem pollSearch_agrees : ZonesAgree s (pollSearch s) := by constructor <;> simp

theorem endPoll_agrees (a : Addr) : ZonesAgree s (endPoll a s) := by constructor <;> simp

theorem completePoll_agrees (a : Addr) : ZonesAgree s (completePoll a s) := by constructor <;> simp

theorem pollAcked_agrees (g : Segment) : ZonesAgree s (pollAcked g s) := by constructor <;> simp

variable {s}

theorem replaceStation_settled (h : DeferralSettled s) (a : Addr) (e : Station) :
    DeferralSettled (replaceStation a e s) := by
  simp only [replaceStation]
  split
  · exact (setStation_agrees s a e).settled h
  · exact reevalBinding_settled _ _ _

theorem testAge_settled (h : DeferralSettled s) (a : Addr) : DeferralSettled (testAge a s) := by
  simp only [testAge]
  split
  · exact h
  · exact replaceStation_settled h _ _

theorem addMark_settled (h : DeferralSettled s) (a : Addr) : DeferralSettled (addMark a s) :=
  replaceStation_settled h _ _

theorem markUndelivered_settled (h : DeferralSettled s) (a : Addr) : DeferralSettled (markUndelivered a s) :=
  (raise_agrees _ _ _).settled (addMark_settled h a)

theorem pollUndelivered_settled (h : DeferralSettled s) (g : Segment) : DeferralSettled (pollUndelivered g s) := by
  simp only [pollUndelivered]
  split
  · exact h
  · split
    · exact (endPoll_agrees _ _).settled (markUndelivered_settled h _)
    · exact h.of_untouched rfl rfl rfl

theorem writeClass_settled (h : DeferralSettled s) (c : StationClass) (a : Addr) :
    DeferralSettled (writeClass c a s) := by
  unfold writeClass
  extract_lets e new t
  split
  · exact reevalBinding_settled _ _ _
  · split
    · exact reevalBinding_settled _ _ _
    · exact (setStation_agrees s a _).settled h

theorem frameUndelivered_settled (h : DeferralSettled s) (g : Segment) (w : Candidate) (f : Frame) :
    DeferralSettled (frameUndelivered g w f s) := by
  have hleft := ((setPort_agrees s g (releasePlace w f (s.port g))).trans
    (countLine_agrees _ g fun c => { c with undelivered := inc16 c.undelivered })).settled h
  simp only [frameUndelivered]
  split
  · exact pollUndelivered_settled hleft g
  · split
    · exact hleft
    · exact markUndelivered_settled hleft _

theorem attemptOutcome_settled (h : DeferralSettled s) (g : Segment) (w : Candidate) (f : Frame)
    (answer : Option Answer) : DeferralSettled (attemptOutcome g w f answer s) := by
  simp only [attemptOutcome]
  split
  · exact (setPort_agrees s g _).settled h
  · split
    · split
      · exact ((setPort_agrees s g _).trans (pollAcked_agrees _ g)).settled h
      · exact (setPort_agrees s g _).settled h
    · exact frameUndelivered_settled h g w f
    all_goals
      split
      · exact (setPort_agrees s g _).settled h
      · exact frameUndelivered_settled h g w f

theorem setOccupancy_settled (h : DeferralSettled s) (g : Segment) (o : Occupancy) :
    DeferralSettled (s.setOccupancy g o) :=
  (setOccupancy_agrees s g o).settled h

theorem startReception_settled (h : DeferralSettled s) (g : Segment) : DeferralSettled (startReception g s) := by
  unfold startReception
  split
  case h_7 | h_8 => exact setOccupancy_settled (attemptOutcome_settled h _ _ _ _) _ _
  case h_9 => exact h
  all_goals exact setOccupancy_settled h _ _

theorem abandon_settled (h : DeferralSettled s) (g : Segment) (f : LineCounts → LineCounts) :
    DeferralSettled (abandon g f s) := by
  unfold abandon
  split
  · exact h
  · exact setOccupancy_settled ((countLine_agrees _ g f).settled (startReception_settled h g)) _ _

theorem takeAnswer_settled (h : DeferralSettled s) (g : Segment) (char : Byte) (attempt : Option (Candidate × Frame))
    (after : Occupancy) : DeferralSettled (takeAnswer g char attempt after s) := by
  unfold takeAnswer
  split
  · exact setOccupancy_settled (attemptOutcome_settled h _ _ _ _) _ _
  · exact setOccupancy_settled h _ _
  · exact startReception_settled h g

end
end Sys2Proof.Machine
end

section
/-! SUPPORT. Writes, requests, arrivals, power and time keep priority, deferral and the drives settled. -/

namespace Sys2Proof.Machine

section
variable {s : State}

/-! ### Settings and their writes -/

theorem setSampleInterval_settled (h : DeferralSettled s) (n : Nat) : DeferralSettled (setSampleInterval n s) := by
  unfold setSampleInterval
  split
  · exact h
  · exact h.of_untouched rfl rfl rfl

/-- What a write comes to has a property: a refused write leaves nothing to have it. -/
def Written.Meets (P : State → Prop) : Written → Prop
  | .refused => True
  | .written _ t => P t

section
variable {P : State → Prop}

theorem putQuantity_meets {lo hi v : Nat} {f : Nat → State} (h : ∀ n, P (f n)) : (putQuantity lo hi v f).Meets P :=
  h _

theorem putSigned_meets {lo hi : Int} {v : Nat} {f : Int → State} (h : ∀ n, P (f n)) : (putSigned lo hi v f).Meets P :=
  h _

theorem putCode_meets {α : Type} {c : Option α} {f : α → State} (h : ∀ x, P (f x)) : (putCode c f).Meets P := by
  cases c with
  | none => trivial
  | some x => exact h x

end

theorem putStation_meets (h : DeferralSettled s) (a : Addr) (field v : Nat) :
    (putStation a field v s).Meets DeferralSettled := by
  have hset (e : Station) : DeferralSettled (s.setStation a e) := (setStation_agrees s a e).settled h
  unfold putStation
  split
  · exact putCode_meets fun c => writeClass_settled h c a
  · exact putCode_meets fun _ => hset _
  · exact putCode_meets fun _ => hset _
  · exact putQuantity_meets fun _ => hset _
  · exact putCode_meets fun _ => hset _
  · exact putCode_meets fun b => h.of_untouched (by simp) (by simp) (by simp)
  · exact putQuantity_meets fun n => h.of_untouched (by simp [writePeriod]) (by simp) (by simp)
  · trivial

theorem putRule_meets (h : DeferralSettled s) (i : Fin 16) (field v : Nat) :
    (putRule i field v s).Meets DeferralSettled := by
  have hset (r : ForwardRule) :
      DeferralSettled { s with settings := { s.settings with rules := upd s.settings.rules i r } } :=
    h.of_untouched rfl rfl rfl
  unfold putRule
  split
  case h_6 => exact hset _
  case h_9 => trivial
  all_goals exact putCode_meets fun _ => hset _

theorem putZone_meets (h : DeferralSettled s) (z : ZoneId) (field v : Nat) :
    (putZone z field v s).Meets DeferralSettled := by
  unfold putZone
  split
  · exact putCode_meets fun _ => settle_settled _
  · exact putCode_meets fun _ => settle_settled _
  · exact putCode_meets fun _ => settle_settled _
  · exact putQuantity_meets fun _ => settle_settled _
  · exact putSigned_meets fun _ => settle_settled _
  · exact putCode_meets fun o => writeOutput_settled h o z
  · exact putQuantity_meets fun _ => settle_settled _
  · exact putQuantity_meets fun _ => settle_settled _
  · exact putQuantity_meets fun _ => settle_settled _
  · exact putQuantity_meets fun _ => settle_settled _
  · trivial

theorem setCommon_settled (h : DeferralSettled s) (c : CommonSettings) : DeferralSettled (s.setCommon c) :=
  h.of_untouched rfl rfl rfl

theorem putCommon_meets (h : DeferralSettled s) (field v : Nat) : (putCommon field v s).Meets DeferralSettled := by
  unfold putCommon
  split
  · exact putQuantity_meets fun _ => recomputeFloor_settled (setCommon_settled h _)
  · exact putQuantity_meets fun _ => recomputeFloor_settled (setCommon_settled h _)
  · exact putQuantity_meets fun _ => setCommon_settled h _
  · exact putQuantity_meets fun _ => setCommon_settled h _
  · trivial

theorem putStrap_meets (h : DeferralSettled s) (i : Fin 16) (field v : Nat) :
    (putStrap i field v s).Meets DeferralSettled := by
  unfold putStrap
  split
  · exact putQuantity_meets fun _ => writeSlot_settled h i _
  · exact putQuantity_meets fun _ => writeSlot_settled h i _
  · trivial

theorem putTank_meets (h : DeferralSettled s) (field v : Nat) : (putTank field v s).Meets DeferralSettled := by
  unfold putTank
  split
  · exact putQuantity_meets fun n => writeHeight_settled h n
  · exact putQuantity_meets fun n => writePointCount_settled h n
  · exact putQuantity_meets fun _ => setTank_settled h _
  · exact putQuantity_meets fun _ => setTank_settled h _
  · exact putQuantity_meets fun _ => writeThreshold_settled h _
  · exact putQuantity_meets fun _ => writeThreshold_settled h _
  · exact putQuantity_meets fun _ => h.of_untouched rfl rfl rfl
  · exact putQuantity_meets fun _ => h.of_untouched rfl rfl rfl
  · exact putQuantity_meets fun _ => h.of_untouched rfl rfl rfl
  · trivial

theorem putBurner_meets (h : DeferralSettled s) (field v : Nat) : (putBurner field v s).Meets DeferralSettled := by
  unfold putBurner
  split
  case h_2 => exact putSigned_meets fun _ => h.of_untouched rfl rfl rfl
  case h_8 => exact putQuantity_meets fun n => setSampleInterval_settled h n
  case h_9 => trivial
  all_goals exact putQuantity_meets fun _ => h.of_untouched rfl rfl rfl

theorem putRecovery_meets (h : DeferralSettled s) (field v : Nat) :
    (putRecovery field v s).Meets DeferralSettled := by
  unfold putRecovery
  split
  case h_4 => trivial
  all_goals exact putQuantity_meets fun _ => h.of_untouched rfl rfl rfl

theorem putField_meets (h : DeferralSettled s) (table index field v : Nat) :
    (putField table index field v s).Meets DeferralSettled := by
  unfold putField
  split
  · split
    · exact putStation_meets h _ _ _
    · trivial
  · split
    · exact putRule_meets h _ _ _
    · trivial
  · split
    · exact putZone_meets h _ _ _
    · exact putCommon_meets h _ _
  · split
    · exact putStrap_meets h _ _ _
    · trivial
  · exact putTank_meets h _ _
  · exact putBurner_meets h _ _
  · exact putRecovery_meets h _ _
  · split
    · exact putCode_meets fun _ => h.of_untouched rfl rfl rfl
    · trivial
  · trivial

/-! ### RELOAD -/

theorem reloadTank_settled (h : DeferralSettled s) (n : Nat) : DeferralSettled (reloadTank n s) := by
  simp only [reloadTank]
  refine reclassify_settled ?_ _ _
  split
  · exact retestTable_settled h _
  · exact retestTable_settled (emptyWindow_settled h) _

/-- The zones are settled under their new settings, whatever they were before (R70). -/
theorem reload_settled : DeferralSettled (reload s) := by
  simp only [reload, replaceSettings, reloadZones]
  exact setSampleInterval_settled (reloadTank_settled (settle_settled _) _) _

/-! ### Requests -/

theorem readAnswer_settled (h : DeferralSettled s) (args : List Byte) : DeferralSettled (readAnswer args s).state := by
  simp only [readAnswer]
  split
  · exact h
  · dsimp only
    split
    · exact h.of_untouched rfl rfl rfl
    · exact h

theorem writeAnswer_settled (h : DeferralSettled s) (args : List Byte) :
    DeferralSettled (writeAnswer args s).state := by
  simp only [writeAnswer]
  split
  · exact h
  · split
    · exact h
    · next hput =>
      have hmeets := putField_meets h (argument args 0) (argument args 1) (argument args 2) (numberOf (args.drop 3))
      rw [hput] at hmeets
      exact hmeets

theorem forcePollAnswer_settled (h : DeferralSettled s) (args : List Byte) :
    DeferralSettled (forcePollAnswer args s).state := by
  unfold forcePollAnswer
  split
  · exact h
  · split
    · exact h
    · exact h.of_untouched (by simp) (by simp) (by simp)

theorem carryOut_settled (h : DeferralSettled s) (c : Command) (args : List Byte) :
    DeferralSettled (carryOut c args s).state := by
  cases c with
  | read => exact readAnswer_settled h args
  | write => exact writeAnswer_settled h args
  | commit => exact h.of_untouched (by simp [carryOut]) (by simp [carryOut]) (by simp [carryOut])
  | reload =>
    simp only [carryOut]
    exact reload_settled
  | setFloor =>
    simp only [carryOut, setFloorAnswer]
    exact recomputeFloor_settled (setCommon_settled h _)
  | setTime =>
    simp only [carryOut, setTimeAnswer]
    exact reevalWhere_settled _ _ _
  | releaseSample =>
    simp only [carryOut, releaseSample]
    split
    · exact h.of_untouched (by simp) (by simp) (by simp)
    · exact h
  | ackLeak => exact (acknowledgeLeak_agrees s).settled h
  | clearHard =>
    simp only [carryOut]
    split
    · exact (clearHard_agrees s).settled h
    · exact h
  | clearFault => exact clearFaults_settled h
  | clearCounters => exact h.of_untouched rfl rfl rfl
  | forcePoll => exact forcePollAnswer_settled h args
  | statusNow => exact h

theorem handleRequest_settled (h : DeferralSettled s) (req : Requester) (rights : Rights) (code : Byte)
    (args : List Byte) : DeferralSettled (handleRequest req rights code args s) := by
  have hhand (m : Mgmt) : DeferralSettled { s with mgmt := m } := h.of_untouched rfl rfl rfl
  have hanswer (m : Mgmt) : DeferralSettled (answerRequest rights code args { s with mgmt := m }).state := by
    unfold answerRequest
    split
    · exact hhand m
    · exact carryOut_settled (hhand m) _ _
  exact (hanswer _).of_untouched rfl rfl rfl

/-! ### The arrival of a frame -/

theorem handOver_settled (h : DeferralSettled s) (g : Segment) (a : Addr) (f : Frame) (old : Station) :
    DeferralSettled (handOver g a f old s) := by
  unfold handOver
  extract_lets e u v
  have hu : DeferralSettled u := by
    unfold u
    split
    · exact (setUnit_agrees s a none).settled h
    · exact h
  split
  · exact reevalBinding_settled _ _ _
  · have hv : DeferralSettled v := by
      unfold v
      split
      · exact reevalBinding_settled _ _ _
      · exact hu
    split
    · exact takeLevel_settled hv _ _
    · split
      · split
        · exact hv
        · exact handleRequest_settled hv _ _ _ _
      · exact hv

theorem accept_settled (h : DeferralSettled s) (g : Segment) (a : Addr) (f : Frame) :
    DeferralSettled (accept g a f s) := by
  simp only [accept]
  refine handOver_settled ((completePoll_agrees _ _).settled ?_) _ _ _ _
  split <;> exact h.of_untouched rfl rfl rfl

theorem learnSegment_settled (h : DeferralSettled s) (g : Segment) (a : Addr) :
    DeferralSettled (learnSegment g a s) := by
  simp only [learnSegment]
  split
  · exact h
  · split <;> exact h.of_untouched rfl rfl rfl

theorem countLine_settled (h : DeferralSettled s) (g : Segment) (f : LineCounts → LineCounts) :
    DeferralSettled (s.countLine g f) :=
  (countLine_agrees s g f).settled h

theorem enqueue_settled (h : DeferralSettled s) (g : Segment) (f : Frame) : DeferralSettled (enqueue g f s) :=
  (setPort_agrees s _ _).settled h

theorem takeMalformed_settled (h : DeferralSettled s) (g : Segment) (f : Frame) :
    DeferralSettled (takeMalformed g f s).1 := by
  simp only [takeMalformed]
  exact countLine_settled h g _

theorem takeOwn_settled (h : DeferralSettled s) (g : Segment) (a : Addr) (f : Frame) :
    DeferralSettled (takeOwn g a f s).1 := by
  unfold takeOwn
  split
  · exact h
  · split
    · exact h
    · exact accept_settled h g a f

theorem takeAcross_settled (h : DeferralSettled s) (g : Segment) (a : Addr) (f : Frame) (cross : Bool) :
    DeferralSettled (takeAcross g a f cross s).1 := by
  unfold takeAcross
  split
  · exact accept_settled h g a f
  · split
    · exact h
    · exact enqueue_settled (accept_settled h g a f) g f

theorem takeUnanswered_settled (h : DeferralSettled s) (g : Segment) (a : Addr) (f : Frame) (cross : Bool) :
    DeferralSettled (takeUnanswered g a f cross s).1 := by
  simp only [takeUnanswered, enqueueOrDrop]
  split
  · split
    · exact countLine_settled (accept_settled h g a f) _ _
    · exact enqueue_settled (accept_settled h g a f) g f
  · exact accept_settled h g a f

theorem takeWellFormed_settled (h : DeferralSettled s) (g : Segment) (a : Addr) (f : Frame) :
    DeferralSettled (takeWellFormed g a f s).1 := by
  have hlearned := learnSegment_settled h g a
  simp only [takeWellFormed]
  split
  · exact h.of_untouched (by simp [takeConflict]) (by simp [takeConflict]) (by simp [takeConflict])
  · split
    · simp only [takeDuplicate]
      exact countLine_settled hlearned g _
    · split
      · exact takeOwn_settled hlearned g a f
      · split
        · exact takeAcross_settled hlearned g a f _
        · exact takeUnanswered_settled hlearned g a f _

theorem takeFrame_settled (h : DeferralSettled s) (g : Segment) (f : Frame) : DeferralSettled (takeFrame g f s).1 := by
  unfold takeFrame
  split
  · dsimp only
    exact countLine_settled h g _
  · split
    · exact takeMalformed_settled h g f
    · split
      · exact takeMalformed_settled h g f
      · exact takeWellFormed_settled h g _ f

theorem countAnswer_settled (h : DeferralSettled s) (g : Segment) (answer : Option Answer) :
    DeferralSettled (countAnswer g answer s) := by
  unfold countAnswer
  split
  · exact countLine_settled h _ _
  · exact countLine_settled h _ _
  · exact h
  · exact h

/-! ### Power and time -/

/-- Without power every zone is at its defaults: disabled, without priority and not deferred, with its valve closed. -/
theorem darkState_settled : DeferralSettled (darkState s) where
  priority z := by
    have hzone : (darkState s).zone z = {} := by simp [State.zone, darkState]
    rw [hzone]
    exact decidePriority_of_noCall (by simp [hasPriorityCall])
  deferred z := by
    have hzone : (darkState s).zone z = {} := by simp [State.zone, darkState]
    simp [hzone, decideDeferred]
  drives o := by
    have hzone (z : ZoneId) : (darkState s).zone z = {} := by simp [State.zone, darkState]
    have hvalve : (darkState s).valve o = {} := by simp [State.valve, darkState]
    rw [hvalve, driveWanted]
    split
    · rfl
    · simp [hzone]

theorem boot_settled : DeferralSettled (boot s) :=
  (buildStatus_agrees _).settled (reevalWhere_settled _ _ _)

@[simp] theorem tickSecond_zone (z : ZoneId) : (tickSecond s).zone z = tickZone (s.zone z) := by
  simp only [State.zone, tickSecond, tickZones, mapAll_get]

@[simp] theorem tickSecond_zoneCfg (z : ZoneId) : (tickSecond s).zoneCfg z = s.zoneCfg z := by
  simp only [State.zoneCfg, tickSecond]

@[simp] theorem tickSecond_drive (o : OutputId) : ((tickSecond s).valve o).drive = (s.valve o).drive := by
  simp only [State.valve, tickSecond, tickZones, mapAll_get]

@[simp] theorem tickTimer_isSome (t : Timer) : (tickTimer t).isSome = t.isSome := by
  simp [tickTimer]

/-- A second counts the priority timer down and neither starts nor ends a priority call. -/
theorem decidePriority_tickZone {c : ZoneSettings} {r : Zone} (h : decidePriority c r = r) :
    decidePriority c (tickZone r) = tickZone r := by
  have hcall : hasPriorityCall c (tickZone r) = hasPriorityCall c r := rfl
  have hstands : r.priorityCall = hasPriorityCall c r := by rw [← decidePriority_priorityCall, h]
  cases hc : hasPriorityCall c r with
  | true => exact decidePriority_of_standingCall (hcall.trans hc) (hstands.trans hc)
  | false =>
    rw [decidePriority_of_noCall (hcall.trans hc), ← h, decidePriority_of_noCall hc]
    rfl

theorem tickSecond_settled (h : DeferralSettled s) : DeferralSettled (tickSecond s) where
  priority z := by rw [tickSecond_zone, tickSecond_zoneCfg]; exact decidePriority_tickZone (h.priority z)
  deferred z := by
    have hany : anyPriority (tickSecond s) = anyPriority s := by
      simp only [anyPriority, tickSecond_zone, tickZone, tickTimer_isSome]
    rw [hany, tickSecond_zone, tickSecond_zoneCfg]
    exact h.deferred z
  drives o := by
    have hstate : (tickSecond s).burner.state = s.burner.state := rfl
    rw [tickSecond_drive, h.drives]
    simp only [driveWanted, holderOf, tickSecond_zoneCfg, hstate, tickSecond_zone, tickZone]

end

end Sys2Proof.Machine
end

section
/-! SUPPORT. Every command keeps priority, deferral and the drives settled, and what a settled state says of a deferred
zone (R58). -/

namespace Sys2Proof.Machine

/-! ## Every command and every step -/

/-- Every next state that an outcome answers has a property. -/
def Leads (P : State → Prop) (o : Host.Outcome State Fault Refusal) : Prop := ∀ t, o = .next t → P t

theorem leads_next {P : State → Prop} {t : State} (h : P t) : Leads P (.next t) := by
  intro u hu
  exact (Host.Outcome.next.inj hu) ▸ h

theorem whenPowered_leads {P : State → Prop} {s : State} {f : State → State} (h : P s) (hf : P (f s)) :
    Leads P (whenPowered s f) := by
  refine leads_next ?_
  split
  · exact hf
  · exact h

/-- A command that is taken only while a condition holds, and else changes nothing. -/
theorem whenPoweredIf_leads {P : State → Prop} {s : State} {p : State → Prop} [∀ s, Decidable (p s)]
    {f : State → State} (h : P s) (hf : p s → P (f s)) : Leads P (whenPowered s fun s => if p s then f s else s) := by
  refine whenPowered_leads h ?_
  split
  · next hp => exact hf hp
  · exact h

section
variable {s : State}

/-! ### Power, time and the line -/

theorem execPowerOn_settled (h : DeferralSettled s) : Leads DeferralSettled (execPowerOn s) := by
  refine leads_next ?_
  split
  · exact h
  · exact boot_settled

theorem execFrameArrival_settled (h : DeferralSettled s) (g : Segment) (f : Frame) :
    Leads DeferralSettled (execFrameArrival g f s) := by
  refine whenPowered_leads h ?_
  split
  · exact h
  · split
    · exact abandon_settled h g _
    · exact setOccupancy_settled (countAnswer_settled (takeFrame_settled (startReception_settled h g) g f) g _) _ _

theorem execFrameAbandon_settled (h : DeferralSettled s) (g : Segment) (cause : AbandonCause) :
    Leads DeferralSettled (execFrameAbandon g cause s) := by
  refine whenPowered_leads h ?_
  cases cause <;> exact abandon_settled h g _

theorem execAckSlotClose_settled (h : DeferralSettled s) (slot : SlotEnd) :
    Leads DeferralSettled (execAckSlotClose slot s) := by
  refine whenPowered_leads h ?_
  split
  case h_4 =>
    split
    · exact setOccupancy_settled h _ _
    · exact setOccupancy_settled (attemptOutcome_settled h _ _ _ _) _ _
  case h_1 | h_2 | h_3 => exact setOccupancy_settled h _ _
  all_goals exact h

theorem execAnswerCharacterReceived_settled (h : DeferralSettled s) (g : Segment) (char : Byte) :
    Leads DeferralSettled (execAnswerCharacterReceived g char s) := by
  refine whenPowered_leads h ?_
  split
  case h_1 | h_2 | h_3 => exact takeAnswer_settled h _ _ _ _
  all_goals exact startReception_settled h g

theorem execTransmitSelection_settled (h : DeferralSettled s) (g : Segment) :
    Leads DeferralSettled (execTransmitSelection g s) := by
  refine whenPoweredIf_leads h fun _ => ?_
  split
  · exact h
  · exact setOccupancy_settled h _ _

theorem execRetryWaitExpiry_settled (h : DeferralSettled s) (g : Segment) (place : UnicastPlace) :
    Leads DeferralSettled (execRetryWaitExpiry g place s) := by
  refine whenPowered_leads h ?_
  exact (setPort_agrees s g _).settled h

theorem execFrameSent_settled (h : DeferralSettled s) (g : Segment) : Leads DeferralSettled (execFrameSent g s) := by
  refine whenPowered_leads h ?_
  split
  case h_1 => split <;> exact setOccupancy_settled ((setPort_agrees s g _).settled h) _ _
  all_goals exact h

/-! ### Stations -/

theorem execDuplicateWindowExpiry_settled (h : DeferralSettled s) (a : Addr) :
    Leads DeferralSettled (execDuplicateWindowExpiry a s) := by
  refine whenPowered_leads h ?_
  split
  · exact h
  · split
    · exact (setStation_agrees s a _).settled h
    · exact h

theorem execSilenceLimitReached_settled (h : DeferralSettled s) (a : Addr) :
    Leads DeferralSettled (execSilenceLimitReached a s) := by
  refine whenPoweredIf_leads h fun _ => ?_
  exact testAge_settled h a

theorem execAbsencePointReached_settled (h : DeferralSettled s) (a : Addr) :
    Leads DeferralSettled (execAbsencePointReached a s) := by
  refine whenPoweredIf_leads h fun _ => ?_
  exact testAge_settled h a

theorem execPollCountdownExpiry_settled (h : DeferralSettled s) (a : Addr) :
    Leads DeferralSettled (execPollCountdownExpiry a s) := by
  refine whenPoweredIf_leads h fun _ => ?_
  exact (pollSearch_agrees s).settled h

theorem execPollAnswerWaitExpiry_settled (h : DeferralSettled s) :
    Leads DeferralSettled (execPollAnswerWaitExpiry s) := by
  refine whenPowered_leads h ?_
  split
  · exact h
  · split
    · exact (endPoll_agrees _ _).settled (addMark_settled h _)
    · exact h

/-! ### Zones: what a command of the zone unit changes is settled in the same step -/

theorem execHoldTimerExpiry_settled (h : DeferralSettled s) (z : ZoneId) :
    Leads DeferralSettled (execHoldTimerExpiry z s) :=
  whenPoweredIf_leads h fun _ => settle_settled _

theorem execBoostExpiry_settled (h : DeferralSettled s) (z : ZoneId) : Leads DeferralSettled (execBoostExpiry z s) :=
  whenPoweredIf_leads h fun _ => settle_settled _

theorem execFallbackDutyBoundary_settled (h : DeferralSettled s) (z : ZoneId) :
    Leads DeferralSettled (execFallbackDutyBoundary z s) :=
  whenPoweredIf_leads h fun _ => settle_settled _

theorem execPriorityTimerExpiry_settled (h : DeferralSettled s) (z : ZoneId) :
    Leads DeferralSettled (execPriorityTimerExpiry z s) :=
  whenPoweredIf_leads h fun _ => settle_settled _

theorem execSwitchClose_settled (h : DeferralSettled s) (o : OutputId) :
    Leads DeferralSettled (execSwitchClose o s) :=
  whenPoweredIf_leads h fun _ => settle_settled _

theorem execSwitchOpen_settled (h : DeferralSettled s) (o : OutputId) : Leads DeferralSettled (execSwitchOpen o s) :=
  whenPoweredIf_leads h fun _ => settle_settled _

theorem execTravelExpiry_settled (h : DeferralSettled s) (o : OutputId) :
    Leads DeferralSettled (execTravelExpiry o s) :=
  whenPoweredIf_leads h fun _ => settle_settled _

theorem execEndSwitchFirstValue_settled (h : DeferralSettled s) (closed : BitVec 12) :
    Leads DeferralSettled (execEndSwitchFirstValue closed s) := by
  refine whenPowered_leads h ?_
  exact settle_settled _

theorem execPumpOverrunExpiry_settled (h : DeferralSettled s) : Leads DeferralSettled (execPumpOverrunExpiry s) := by
  refine whenPoweredIf_leads h fun _ => ?_
  refine (recomputePump_agrees _).settled ?_
  exact h.of_parts rfl rfl rfl Iff.rfl

/-! ### The burner sequencer -/

theorem execStartDelayExpiry_settled (h : DeferralSettled s) : Leads DeferralSettled (execStartDelayExpiry s) := by
  refine whenPoweredIf_leads h fun hg => ?_
  exact h.of_parts (by simp) (by simp) (by simp) (by simp [hg.1])

theorem execPacingExpiry_settled (h : DeferralSettled s) : Leads DeferralSettled (execPacingExpiry s) := by
  refine whenPoweredIf_leads h fun hg => ?_
  exact h.of_parts (by simp) (by simp) (by simp) (by simp [hg.1])

theorem execPreheatExpiry_settled (h : DeferralSettled s) : Leads DeferralSettled (execPreheatExpiry s) := by
  refine whenPoweredIf_leads h fun hg => ?_
  dsimp only
  split <;> exact h.of_parts (by simp) (by simp) (by simp) (by simp [hg.1])

theorem execBoxNoResponse_settled (h : DeferralSettled s) : Leads DeferralSettled (execBoxNoResponse s) := by
  refine whenPoweredIf_leads h fun hg => ?_
  refine h.of_parts (by simp) (by simp) (by simp) ?_
  simpa [hg.1] using decideIfCalled_not_outputFault (by simp)

theorem execProvingExpiry_settled (h : DeferralSettled s) : Leads DeferralSettled (execProvingExpiry s) := by
  refine whenPoweredIf_leads h fun hg => ?_
  dsimp only [takeLatency]
  split <;> exact h.of_parts (by simp) (by simp) (by simp) (by simp [hg.1])

theorem execMinimumRunExpiry_settled (h : DeferralSettled s) : Leads DeferralSettled (execMinimumRunExpiry s) := by
  refine whenPoweredIf_leads h fun hg => ?_
  dsimp only
  split <;> exact h.of_parts (by simp) (by simp) (by simp) (by simp [hg.1])

theorem execFiringSecond_settled (h : DeferralSettled s) : Leads DeferralSettled (execFiringSecond s) := by
  refine whenPoweredIf_leads h fun _ => ?_
  exact h.of_parts (by simp) (by simp) (by simp) (by simp)

theorem execFlameOut_settled (h : DeferralSettled s) : Leads DeferralSettled (execFlameOut s) := by
  refine whenPoweredIf_leads h fun hg => ?_
  have hstate : s.burner.state ≠ .outputFault := by
    obtain ⟨hstarting | hfiring, -⟩ := hg <;> simp [*]
  dsimp only
  split <;> exact h.of_parts (by simp) (by simp) (by simp) (by simp [hstate])

theorem execRunRise_settled (h : DeferralSettled s) : Leads DeferralSettled (execRunRise s) := by
  refine whenPowered_leads h ?_
  split
  · exact h
  · dsimp only
    split
    · next hstate => exact h.of_parts (by simp) (by simp) (by simp) (by simp [hstate])
    · split <;> exact h.of_parts rfl rfl rfl Iff.rfl
    · split
      · exact h.of_parts (by simp) (by simp) (by simp) (by simp)
      · exact h.of_parts rfl rfl rfl Iff.rfl
    all_goals exact h.of_parts rfl rfl rfl Iff.rfl

theorem execRunFall_settled (h : DeferralSettled s) : Leads DeferralSettled (execRunFall s) := by
  refine whenPoweredIf_leads h fun _ => ?_
  dsimp only
  split
  case h_3 hstate => exact h.of_parts (by simp) (by simp) (by simp) (by simp [hstate])
  case h_2 => exact h.of_parts (by simp) (by simp) (by simp) (by simp)
  all_goals exact h.of_parts rfl rfl rfl Iff.rfl

/-! ### Lockout recovery -/

theorem execLockoutRise_settled (h : DeferralSettled s) : Leads DeferralSettled (execLockoutRise s) := by
  refine whenPowered_leads h ?_
  split
  · exact h
  · have hrisen : DeferralSettled { s with recovery := { s.recovery with lockout := true } } :=
      h.of_untouched rfl rfl rfl
    dsimp only
    split
    · exact (openEpisode_agrees _).settled hrisen
    · exact (continueEpisode_agrees _).settled hrisen
    all_goals exact hrisen

theorem execLockoutFall_settled (h : DeferralSettled s) : Leads DeferralSettled (execLockoutFall s) := by
  refine whenPoweredIf_leads h fun _ => ?_
  have hfallen : DeferralSettled { s with recovery := { s.recovery with lockout := false } } :=
    h.of_untouched rfl rfl rfl
  have hmarked := (markHand_agrees _).settled hfallen
  dsimp only
  split
  · exact (toObserving_agrees _).settled hfallen
  · exact (toObserving_agrees _).settled hmarked
  · exact (toObserving_agrees _).settled hmarked
  · exact hmarked
  · exact hfallen
  · exact hfallen

theorem execCoolDownExpiry_settled (h : DeferralSettled s) : Leads DeferralSettled (execCoolDownExpiry s) := by
  refine whenPoweredIf_leads h fun _ => ?_
  refine (testsThen_agrees _ (automaticPulse_agrees _)).settled ?_
  exact h.of_untouched rfl rfl rfl

theorem execResetPulseEnd_settled (h : DeferralSettled s) : Leads DeferralSettled (execResetPulseEnd s) := by
  refine whenPoweredIf_leads h fun _ => ?_
  exact (cutPulse_agrees s).settled h

theorem execReleaseWaitExpiry_settled (h : DeferralSettled s) : Leads DeferralSettled (execReleaseWaitExpiry s) := by
  refine whenPoweredIf_leads h fun _ => ?_
  refine (testsThen_agrees _ (toCooling_agrees _)).settled ?_
  exact h.of_untouched rfl rfl rfl

theorem execProvingWindowExpiry_settled (h : DeferralSettled s) :
    Leads DeferralSettled (execProvingWindowExpiry s) := by
  refine whenPoweredIf_leads h fun _ => ?_
  exact h.of_untouched (by simp) (by simp) (by simp)

theorem execObserveLimitExpiry_settled (h : DeferralSettled s) : Leads DeferralSettled (execObserveLimitExpiry s) := by
  refine whenPoweredIf_leads h fun _ => ?_
  exact h.of_untouched (by simp) (by simp) (by simp)

theorem execServiceWaitExpiry_settled (h : DeferralSettled s) : Leads DeferralSettled (execServiceWaitExpiry s) := by
  refine whenPoweredIf_leads h fun _ => ?_
  have hended : DeferralSettled { s with recovery := { s.recovery with service := none } } :=
    h.of_untouched rfl rfl rfl
  dsimp only
  split
  · exact (openEpisode_agrees _).settled hended
  · exact hended

theorem execResetTimeEntryExpiry_settled (h : DeferralSettled s) :
    Leads DeferralSettled (execResetTimeEntryExpiry s) := by
  refine whenPowered_leads h ?_
  exact h.of_untouched rfl rfl rfl

/-! ### The tank, the accounts, the output monitor, the alarm unit and the store -/

theorem execStaleTimerExpiry_settled (h : DeferralSettled s) : Leads DeferralSettled (execStaleTimerExpiry s) := by
  refine whenPoweredIf_leads h fun _ => ?_
  exact recomputeVolume_settled (emptyWindow_settled h) _

theorem execSpacingTimerExpiry_settled (h : DeferralSettled s) :
    Leads DeferralSettled (execSpacingTimerExpiry s) := by
  refine whenPoweredIf_leads h fun _ => ?_
  exact h.of_untouched rfl rfl rfl

theorem execMidnight_settled (h : DeferralSettled s) : Leads DeferralSettled (execMidnight s) := by
  refine whenPoweredIf_leads h fun _ => ?_
  dsimp only
  split <;> exact h.of_untouched (by simp) (by simp) (by simp)

theorem execContactSenseChange_settled (h : DeferralSettled s) (r : Relay) (closed : Bool) :
    Leads DeferralSettled (execContactSenseChange r closed s) := by
  refine whenPowered_leads h ?_
  have hsensed (x : RelayState) : DeferralSettled (s.setRelay r x) := (setRelay_agrees s r x).settled h
  dsimp only
  split
  · exact h
  · split
    · exact mismatch_settled (hsensed _) r
    · exact hsensed _

theorem execReadbackExpiry_settled (h : DeferralSettled s) (r : Relay) :
    Leads DeferralSettled (execReadbackExpiry r s) := by
  refine whenPoweredIf_leads h fun _ => ?_
  split
  · exact (setRelay_agrees s r _).settled h
  · exact mismatch_settled h r

theorem execAlarmSend_settled (h : DeferralSettled s) : Leads DeferralSettled (execAlarmSend s) := by
  refine whenPowered_leads h ?_
  split
  · exact h
  · split
    · exact h.of_untouched rfl rfl rfl
    · exact h

theorem execSendTimeEntryExpiry_settled (h : DeferralSettled s) :
    Leads DeferralSettled (execSendTimeEntryExpiry s) := by
  refine whenPowered_leads h ?_
  exact h.of_untouched rfl rfl rfl

theorem execStatusSpacingExpiry_settled (h : DeferralSettled s) :
    Leads DeferralSettled (execStatusSpacingExpiry s) := by
  refine whenPoweredIf_leads h fun _ => ?_
  dsimp only
  split <;> exact h.of_untouched (by simp) (by simp) (by simp)

theorem execStatusPeriodicExpiry_settled (h : DeferralSettled s) :
    Leads DeferralSettled (execStatusPeriodicExpiry s) := by
  refine whenPoweredIf_leads h fun _ => ?_
  exact (buildStatus_agrees s).settled h

theorem finishSave_settled (h : DeferralSettled s) : DeferralSettled (finishSave s) := by
  unfold finishSave
  split
  · exact h
  · exact h.of_untouched rfl rfl rfl
  · exact h.of_untouched rfl rfl rfl

theorem startPending_settled (h : DeferralSettled s) : DeferralSettled (startPending s) := by
  unfold startPending
  split
  · exact h
  · exact h.of_untouched rfl rfl rfl
  · exact h.of_untouched rfl rfl rfl
  · dsimp only
    split <;> exact h.of_untouched rfl rfl rfl

theorem execSaveComplete_settled (h : DeferralSettled s) : Leads DeferralSettled (execSaveComplete s) := by
  refine whenPoweredIf_leads h fun _ => ?_
  exact startPending_settled (finishSave_settled h)

/-! ### The management unit -/

theorem request_settled (h : DeferralSettled s) (req : Requester) (code : Byte) (args : List Byte) :
    Leads DeferralSettled (request req code args s) := by
  refine whenPowered_leads h ?_
  split
  · exact h
  · split
    · exact h
    · exact handleRequest_settled h _ _ _ _

theorem execReplyHandOver_settled (h : DeferralSettled s) : Leads DeferralSettled (execReplyHandOver s) := by
  refine whenPowered_leads h ?_
  split
  · exact h
  · dsimp only
    split
    · exact h.of_untouched (by simp) (by simp) (by simp)
    · exact h

theorem execServiceInputChange_settled (h : DeferralSettled s) (closed : Bool) :
    Leads DeferralSettled (execServiceInputChange closed s) := by
  refine whenPowered_leads h ?_
  exact h.of_untouched rfl rfl rfl

theorem execWriteStrapping_settled (h : DeferralSettled s) (req : Requester) (target : StrapTarget)
    (value : List Byte) : Leads DeferralSettled (execWriteStrapping req target value s) := by
  cases target <;> exact request_settled h _ _ _

/-! ### The whole -/

theorem exec_settled (h : DeferralSettled s) (c : Instr) : Leads DeferralSettled (exec c s) := by
  cases c with
  | powerOn => exact execPowerOn_settled h
  | powerLoss => exact whenPowered_leads h darkState_settled
  | timeBaseSecond => exact whenPowered_leads h (tickSecond_settled h)
  | midnight => exact execMidnight_settled h
  | frameArrival g f => exact execFrameArrival_settled h g f
  | frameAbandon g cause => exact execFrameAbandon_settled h g cause
  | characterGapExpiry g => exact whenPowered_leads h (abandon_settled h g _)
  | ackSlotClose slot => exact execAckSlotClose_settled h slot
  | answerCharacterReceived g char => exact execAnswerCharacterReceived_settled h g char
  | retryWaitExpiry g place => exact execRetryWaitExpiry_settled h g place
  | transmitSelection g => exact execTransmitSelection_settled h g
  | frameSent g => exact execFrameSent_settled h g
  | duplicateWindowExpiry a => exact execDuplicateWindowExpiry_settled h a
  | silenceLimitReached a => exact execSilenceLimitReached_settled h a
  | absencePointReached a => exact execAbsencePointReached_settled h a
  | pollCountdownExpiry a => exact execPollCountdownExpiry_settled h a
  | pollAnswerWaitExpiry => exact execPollAnswerWaitExpiry_settled h
  | holdTimerExpiry z => exact execHoldTimerExpiry_settled h z
  | boostExpiry z => exact execBoostExpiry_settled h z
  | fallbackDutyBoundary z => exact execFallbackDutyBoundary_settled h z
  | priorityTimerExpiry z => exact execPriorityTimerExpiry_settled h z
  | switchClose o => exact execSwitchClose_settled h o
  | switchOpen o => exact execSwitchOpen_settled h o
  | endSwitchFirstValue closed => exact execEndSwitchFirstValue_settled h closed
  | travelExpiry o => exact execTravelExpiry_settled h o
  | pumpOverrunExpiry => exact execPumpOverrunExpiry_settled h
  | startDelayExpiry => exact execStartDelayExpiry_settled h
  | pacingExpiry => exact execPacingExpiry_settled h
  | preheatExpiry => exact execPreheatExpiry_settled h
  | boxNoResponse => exact execBoxNoResponse_settled h
  | provingExpiry => exact execProvingExpiry_settled h
  | minimumRunExpiry => exact execMinimumRunExpiry_settled h
  | firingSecond => exact execFiringSecond_settled h
  | flameOut => exact execFlameOut_settled h
  | runRise => exact execRunRise_settled h
  | runFall => exact execRunFall_settled h
  | lockoutRise => exact execLockoutRise_settled h
  | lockoutFall => exact execLockoutFall_settled h
  | coolDownExpiry => exact execCoolDownExpiry_settled h
  | resetPulseEnd => exact execResetPulseEnd_settled h
  | releaseWaitExpiry => exact execReleaseWaitExpiry_settled h
  | provingWindowExpiry => exact execProvingWindowExpiry_settled h
  | observeLimitExpiry => exact execObserveLimitExpiry_settled h
  | serviceWaitExpiry => exact execServiceWaitExpiry_settled h
  | resetTimeEntryExpiry => exact execResetTimeEntryExpiry_settled h
  | staleTimerExpiry => exact execStaleTimerExpiry_settled h
  | spacingTimerExpiry => exact execSpacingTimerExpiry_settled h
  | contactSenseChange r closed => exact execContactSenseChange_settled h r closed
  | readbackExpiry r => exact execReadbackExpiry_settled h r
  | alarmSend => exact execAlarmSend_settled h
  | sendTimeEntryExpiry => exact execSendTimeEntryExpiry_settled h
  | statusSpacingExpiry => exact execStatusSpacingExpiry_settled h
  | statusPeriodicExpiry => exact execStatusPeriodicExpiry_settled h
  | replyHandOver => exact execReplyHandOver_settled h
  | serviceInputChange closed => exact execServiceInputChange_settled h closed
  | saveComplete => exact execSaveComplete_settled h
  | writeStrapping req target value => exact execWriteStrapping_settled h req target value
  | frameStart g => exact whenPowered_leads h (startReception_settled h g)
  | _ => exact request_settled h _ _ _

/-- Priority, deferral and the drives stay settled through every step (R57 to R59). -/
theorem step_settled (h : DeferralSettled s) : Leads DeferralSettled (step s) := by
  unfold step
  split
  · exact leads_next h
  · refine exec_settled ?_ _
    exact h.of_untouched rfl rfl rfl

end

/-! ## What a settled state says of a deferred zone (R56, R58, R64) -/

section
variable {s : State}

/-- Bits set one zone after another: a bit is set at the end where it was set at the start or its zone was met. -/
theorem foldl_acceptedBits (z : ZoneId) (l : List ZoneId) (w : BitVec 12) :
    (l.foldl (fun w y => if (s.zone y).accepted then w ||| BitVec.twoPow 12 y.val else w) w).getLsbD z.val
      = (w.getLsbD z.val || (decide (z ∈ l) && (s.zone z).accepted)) := by
  induction l generalizing w with
  | nil => simp
  | cons y l ih =>
    rw [List.foldl_cons, ih]
    by_cases hzy : z = y
    · subst hzy
      cases hz : (s.zone z).accepted <;> simp
    · have hval : z.val ≠ y.val := fun e => hzy (Fin.ext e)
      cases hy : (s.zone y).accepted <;> simp [hzy, hval]

theorem acceptedSet_getLsbD (z : ZoneId) : (acceptedSet s).getLsbD z.val = (s.zone z).accepted := by
  rw [acceptedSet, foldl_acceptedBits]
  simp [places]

theorem addsDemand_of_deferred {z : ZoneId} (h : (s.zone z).deferred = true) : addsDemand s z = false := by
  simp [addsDemand, h]

theorem driveWanted_of_deferred {o : OutputId} {z : ZoneId} (ho : holderOf s o = some z)
    (h : (s.zone z).deferred = true) : driveWanted s o = false := by
  simp [driveWanted, ho, h]

namespace DeferralSettled

theorem anyPriority_iff_cylinder (hs : DeferralSettled s) :
    anyPriority s = true ↔ ∃ y, (s.zoneCfg y).type = .cylinder ∧ (s.zone y).priority.isSome = true := by
  rw [anyPriority_iff]
  exact exists_congr fun y => ⟨fun hy => ⟨hs.cylinder_of_priority hy, hy⟩, fun hy => hy.2⟩

theorem deferred_iff (hs : DeferralSettled s) (z : ZoneId) :
    (s.zone z).deferred = true ↔
      (∃ y, (s.zoneCfg y).type = .cylinder ∧ (s.zone y).priority.isSome = true)
        ∧ (s.zoneCfg z).type = .room ∧ (s.zone z).accepted = true ∧ 1 ≤ (s.zone z).level ∧ (s.zone z).level ≤ 6 := by
  rw [hs.deferred, decideDeferred_iff, hs.anyPriority_iff_cylinder]

end DeferralSettled

end

/-- Settles O26: the clauses on priority, deferral and drives are kept by every step, and say of each zone what R58
says. -/
theorem deferralFollowsPriority : Obligations.DeferralFollowsPriority := by
  intro s t hs hstep z
  have ht : DeferralSettled t := step_settled hs.deferralSettled t hstep
  refine ⟨ht.deferred_iff z, fun hz => ?_⟩
  have haccepted : (t.zone z).accepted = true := ((ht.deferred_iff z).1 hz).2.2.1
  refine ⟨haccepted, (acceptedSet_getLsbD z).trans haccepted, addsDemand_of_deferred hz, fun o ho => ?_⟩
  rw [ht.drives, driveWanted_of_deferred ho hz]

end Sys2Proof.Machine
end

section
/-! SUPPORT. A request that is accepted, what one that changes nothing leaves (R179, R180), and the six bytes of the
packed status as STATUS_NOW answers them (R20, R188). -/

namespace Sys2Proof.Machine

/-! ## Accepted requests -/

section
variable {s : State} {req : Requester} {rights : Rights}

/-- A request that passes the access test of a free unit is handled (R178, R179). -/
theorem request_of_accepts (h : acceptsRequest s req rights) (code : Byte) (args : List Byte) :
    request req code args s = .next (handleRequest req rights code args s) := by
  obtain ⟨hpowered, hstation, hfree, hrights⟩ := h
  simp [request, whenPowered, hpowered, hstation, hfree, hrights]

/-- A request whose answer leaves the part as it stands changes nothing but the management unit. -/
theorem handleRequest_of_unchanged {code : Byte} {args data : List Byte} {result : Result}
    (h : answerRequest rights code args (holding s req rights code args)
      = { result := result, data := data, state := holding s req rights code args }) :
    handleRequest req rights code args s = withMgmt s (answered s req rights code args result data) := by
  rw [holding] at h
  simp only [handleRequest, h, withMgmt, answered, replyFrame, kindReply]

end

/-! ## The bytes of the packed status -/

/-- A byte joined from two half bytes, as a number: the lower one takes only the low four bits. -/
theorem nibbles_eq (high low : Nat) :
    BitVec.ofNat 4 high ++ BitVec.ofNat 4 low = BitVec.ofNat 8 (16 * high + low % 16) := by
  apply BitVec.eq_of_toNat_eq
  rw [BitVec.toNat_append, ← Nat.shiftLeft_add_eq_or_of_lt (BitVec.isLt _), Nat.shiftLeft_eq]
  simp only [BitVec.toNat_ofNat]
  omega

theorem recoveryCode_lt (r : RecoveryState) : recoveryCode r < 16 := by
  cases r <;> decide

theorem volumeField_eq (s : State) : volumeField s = s.tank.volume.getD 65535 := by
  unfold volumeField
  cases s.tank.volume <;> rfl

/-- Four flags joined, as a number: the last one joined is bit 0. -/
theorem flags_toNat (d c b a : Bool) :
    (BitVec.ofBool d ++ BitVec.ofBool c ++ BitVec.ofBool b ++ BitVec.ofBool a).toNat
      = flagCode a + 2 * flagCode b + 4 * flagCode c + 8 * flagCode d := by
  revert a b c d
  decide

theorem statusFlags_toNat (s : State) : (statusFlags s).toNat
    = flagCode (sampleValid s) + 2 * flagCode s.accounts.leak + 4 * flagCode (outputFaultFlag s)
      + 8 * flagCode s.time.unset :=
  flags_toNat _ _ _ _

/-- Four flags above the twelve bits of a zone set, in two bytes. -/
theorem bytes2_append (flags : BitVec 4) (zones : BitVec 12) :
    bytes2 (flags ++ zones).toNat
      = [BitVec.ofNat 8 (16 * flags.toNat + zones.toNat / 256), BitVec.ofNat 8 zones.toNat] := by
  have hjoin : (flags ++ zones).toNat = 4096 * flags.toNat + zones.toNat := by
    rw [BitVec.toNat_append, ← Nat.shiftLeft_add_eq_or_of_lt zones.isLt, Nat.shiftLeft_eq, Nat.mul_comm]
  have hhigh : (4096 * flags.toNat + zones.toNat) / 256 = 16 * flags.toNat + zones.toNat / 256 := by omega
  have hlow : BitVec.ofNat 8 (4096 * flags.toNat + zones.toNat) = BitVec.ofNat 8 zones.toNat := by
    apply BitVec.eq_of_toNat_eq
    simp only [BitVec.toNat_ofNat]
    omega
  rw [bytes2, hjoin, hhigh, hlow]

theorem packedStatus_eq (s : State) :
    packedStatus s =
      [BitVec.ofNat 8 (16 * burnerCode s.burner.state + recoveryCode s.recovery.state),
        BitVec.ofNat 8 (16 * tankCode s.tank.state + s.zones.floor % 16),
        BitVec.ofNat 8 (s.tank.volume.getD 65535 / 256), BitVec.ofNat 8 (s.tank.volume.getD 65535),
        BitVec.ofNat 8 (16 * (flagCode (sampleValid s) + 2 * flagCode s.accounts.leak
          + 4 * flagCode (outputFaultFlag s) + 8 * flagCode s.time.unset) + (acceptedSet s).toNat / 256),
        BitVec.ofNat 8 (acceptedSet s).toNat] := by
  rw [packedStatus, tankFloorByte, nibbles_eq, nibbles_eq, Nat.mod_eq_of_lt (recoveryCode_lt _), volumeField_eq,
    bytes2_append, statusFlags_toNat]
  rfl

/-! ## STATUS_NOW -/

/-- STATUS_NOW is within every right and needs neither the SERVICE input nor an idle store (R180). -/
theorem decodeCommand_statusNow (s : State) (rights : Rights) :
    decodeCommand s rights codeStatusNow [] = .ok .statusNow := by
  have hcode : commandOf codeStatusNow = some .statusNow := by decide
  simp [decodeCommand, hcode, argumentBytes, panelMay, needsService, needsIdleStore]

theorem answerRequest_statusNow (s : State) (rights : Rights) :
    answerRequest rights codeStatusNow [] s = { result := .done, data := packedStatus s, state := s } := by
  rw [answerRequest, decodeCommand_statusNow]
  rfl

/-- The packed status is read from sources that lie outside the management unit. -/
theorem packedStatus_holding (s : State) (req : Requester) (rights : Rights) (code : Byte) (args : List Byte) :
    packedStatus (holding s req rights code args) = packedStatus s := rfl

/-- Settles O58: the command's answer leaves the part as it stands, and its data are the packed status byte by byte. -/
theorem statusNowAnswersPackedStatus : Obligations.StatusNowAnswersPackedStatus := by
  intro s req rights haccepts volume flags
  have hanswer := answerRequest_statusNow (holding s req rights codeStatusNow []) rights
  rw [packedStatus_holding, packedStatus_eq] at hanswer
  calc exec (.statusNow req) s
      = request req codeStatusNow [] s := rfl
    _ = .next (handleRequest req rights codeStatusNow [] s) := request_of_accepts haccepts _ _
    _ = _ := congrArg Host.Outcome.next (handleRequest_of_unchanged hanswer)

end Sys2Proof.Machine
end
